-- ==== Sys2Proof/Word.lean ====
section
/-! DEFINITION. The number types of the TW4180 and the two small families indexed by the digit of a name (L0 to L5; P0 to P3, EV0 to EV3, PO0 to PO3). -/

namespace Sys2Proof

/-- One byte of a frame, a link message or a setting. -/
abbrev Byte := BitVec 8
/-- A time value: an unsigned 64-bit count of steps (R1). -/
abbrev Time := BitVec 64
/-- The sync index: an unsigned 32-bit position that wraps (R3). -/
abbrev SyncIndex := BitVec 32
/-- The sequence number of a notice: 16 bits, wrapping (R166). -/
abbrev SeqNo := BitVec 16
/-- An order id, 1 to 65535 (Table 6-2). -/
abbrev OrderId := BitVec 16

/-- A link, L0 to L5. -/
abbrev LinkNo := Fin 6
/-- A plan, P0 to P3. -/
abbrev PlanNo := Fin 4
/-- An event line, EV0 to EV3. -/
abbrev EventLine := Fin 4
/-- A pulse output, PO0 to PO3. -/
abbrev OutputNo := Fin 4

/-- The level of a pin. -/
inductive Level where
  | low
  | high
  deriving DecidableEq, Repr

/-- Four like things, one for each of P0 to P3, EV0 to EV3 or PO0 to PO3. -/
structure Per4 (α : Type) where
  a0 : α
  a1 : α
  a2 : α
  a3 : α
  deriving DecidableEq, Repr

/-- Six like things, one for each of L0 to L5. -/
structure Per6 (α : Type) where
  a0 : α
  a1 : α
  a2 : α
  a3 : α
  a4 : α
  a5 : α
  deriving DecidableEq, Repr

/-- The same thing for each of the four. -/
def Per4.all {α : Type} (x : α) : Per4 α := ⟨x, x, x, x⟩

/-- The thing of one name. -/
def Per4.get {α : Type} (v : Per4 α) : Fin 4 → α
  | 0 => v.a0
  | 1 => v.a1
  | 2 => v.a2
  | 3 => v.a3

/-- The thing of one name replaced. -/
def Per4.set {α : Type} (v : Per4 α) (i : Fin 4) (x : α) : Per4 α :=
  match i with
  | 0 => { v with a0 := x }
  | 1 => { v with a1 := x }
  | 2 => { v with a2 := x }
  | 3 => { v with a3 := x }

/-- A function applied to each of the four. -/
def Per4.map {α β : Type} (f : α → β) (v : Per4 α) : Per4 β := ⟨f v.a0, f v.a1, f v.a2, f v.a3⟩

/-- The four in the order of their digits. -/
def Per4.toList {α : Type} (v : Per4 α) : List α := [v.a0, v.a1, v.a2, v.a3]

/-- The same thing for each of the six. -/
def Per6.all {α : Type} (x : α) : Per6 α := ⟨x, x, x, x, x, x⟩

/-- The thing of one link. -/
def Per6.get {α : Type} (v : Per6 α) : Fin 6 → α
  | 0 => v.a0
  | 1 => v.a1
  | 2 => v.a2
  | 3 => v.a3
  | 4 => v.a4
  | 5 => v.a5

/-- The thing of one link replaced. -/
def Per6.set {α : Type} (v : Per6 α) (i : Fin 6) (x : α) : Per6 α :=
  match i with
  | 0 => { v with a0 := x }
  | 1 => { v with a1 := x }
  | 2 => { v with a2 := x }
  | 3 => { v with a3 := x }
  | 4 => { v with a4 := x }
  | 5 => { v with a5 := x }

/-- A function applied to each of the six. -/
def Per6.map {α β : Type} (f : α → β) (v : Per6 α) : Per6 β :=
  ⟨f v.a0, f v.a1, f v.a2, f v.a3, f v.a4, f v.a5⟩

/-- The six in the order of their digits. -/
def Per6.toList {α : Type} (v : Per6 α) : List α := [v.a0, v.a1, v.a2, v.a3, v.a4, v.a5]

end Sys2Proof
end

