-- ==== Sys2Proof/Syntax.lean ====
section
/-! DEFINITION. The commands of the block: one constructor for each row of spec/opcode_table.json, in the table's order.
A row that is the request handler's taking of a request has no operands of its own: R135 makes the handler take the OLDEST request of the
request queue, so its tag and payload stand in State. -/

namespace Sys2Proof

/-- The three kinds of mark on a link (Table 2-2). -/
inductive MarkKind where
  | plain
  | sync
  | syncRealign
  deriving DecidableEq, Repr

/-- The kind of an edge on an event line (R113). -/
inductive Edge where
  | rising
  | falling
  deriving DecidableEq, Repr

/-- The steps of the part (opcode_table.json). -/
inductive Instr where
  /-- POWER_ON_RESET (R139): RSTN is released with the straps BAUD1 and BAUD0 at these levels; HALTN and EV0 to EV3 stand at these
  levels at the first judgement (R20, R113). -/
  | powerOnReset (baud1 baud0 haltn : Level) (ev : Per4 Level)
  /-- CHANNEL_BYTE (R127, R129): the byte taken from CRX, its data bits as sampled, whatever level its stop bit had. -/
  | channelByte (b : Byte)
  /-- FRAME_TIMER_EXPIRY (R130). -/
  | frameTimerExpiry
  /-- UNDEFINED_REQUEST (R135). -/
  | undefinedRequest
  /-- PING (R142). -/
  | ping
  /-- RESTART (R143). -/
  | restart
  /-- RESTART_TAKES_EFFECT (R138). -/
  | restartTakesEffect
  /-- PLAN_WRITE (R144). -/
  | planWrite
  /-- PLAN_READ (R145). -/
  | planRead
  /-- PLAN_CLEAR (R146). -/
  | planClear
  /-- FALLBACK_SET (R147). -/
  | fallbackSet
  /-- FALLBACK_READ (R147). -/
  | fallbackRead
  /-- LINK_SET (R148). -/
  | linkSet
  /-- LINK_READ (R149). -/
  | linkRead
  /-- TIME_START (R150). -/
  | timeStart
  /-- TIME_STOP (R152). -/
  | timeStop
  /-- TIME_READ (R153). -/
  | timeRead
  /-- ACTION_ADD (R154). -/
  | actionAdd
  /-- ACTION_CANCEL (R155). -/
  | actionCancel
  /-- ACTION_LIST (R156). -/
  | actionList
  /-- LINE_SET (R157). -/
  | lineSet
  /-- CAPTURE_READ (R158). -/
  | captureRead
  /-- HALT_SET (R159). -/
  | haltSet
  /-- NOTICE_ACK (R160). -/
  | noticeAck
  /-- NOTICE_SET (R161). -/
  | noticeSet
  /-- TRANSMIT_DONE (R137). -/
  | transmitDone
  /-- ACK_TIMER_EXPIRY (R168). -/
  | ackTimerExpiry
  /-- LINK_MARK (R25): a mark of this kind, with the byte it carries if any, arrives on the pair of the link. -/
  | linkMark (l : LinkNo) (k : MarkKind) (b : Option Byte)
  /-- PULSE_WIDTH_END (R122). -/
  | pulseWidthEnd (o : OutputNo)
  /-- HOLDOVER_EXPIRED (R9). -/
  | holdoverExpired
  /-- GENERATOR_STEP (R7). -/
  | generatorStep
  /-- LOSS_TIMER_EXPIRY (R49) on one link's qualifier. -/
  | lossTimerExpiry (l : LinkNo)
  /-- HOLDOFF_TIMER_EXPIRY (R50) on one link's qualifier. -/
  | holdoffTimerExpiry (l : LinkNo)
  /-- HALTN_ASSERT (R20): HALTN is judged low. -/
  | haltnAssert
  /-- HALTN_RELEASE (R21): HALTN is judged high. -/
  | haltnRelease
  /-- EVENT_EDGE (R113): the line is judged at the level after this edge. -/
  | eventEdge (line : EventLine) (edge : Edge)
  /-- CAUGHT_UP_MARK_LEAVES (R26) on one pair. -/
  | caughtUpMarkLeaves (l : LinkNo)
  deriving DecidableEq, Repr

end Sys2Proof
end

