-- ==== Sys2Proof/Decode.lean ====
section
/-! DEFINITION. The rows of spec/opcode_table.json give no bits, so no word spells a command. How a request frame's bytes select a request
(R128, R176) is part of the machine: Machine/Requests.lean. -/

namespace Sys2Proof

/-- The command that a word spells by the table's bits: none, since no row of the table gives any. -/
def decodeTableWord (_nbits _w : Nat) : Option Instr := none

end Sys2Proof
end

