-- ==== Sys2Proof/Config.lean ====
section
/-! DEFINITION. What the part fixes (counts, capacities, timer lengths) and the one free value of the model. -/

namespace Sys2Proof.Config

/-- The part code that PING and READY report (R142, R165). -/
def partCode : Nat := 0x4180
/-- The revision: 1 for the parts described by the manual (R142). -/
def revision : Nat := 1
/-- Links of the part (R142). -/
def links : Nat := 6
/-- Plan records of the part (R142). -/
def plans : Nat := 4
/-- Slots of the schedule queue (R90). -/
def scheduleSlots : Nat := 32
/-- Records of the capture FIFO (R116). -/
def captureRecords : Nat := 64
/-- Order ids the spent list holds (R110). -/
def spentOrders : Nat := 16
/-- Notices the window holds (R162). -/
def windowSize : Nat := 4
/-- Requests the request queue holds (R134). -/
def requestSlots : Nat := 4
/-- Slots of the response list (R136). -/
def responseSlots : Nat := 6
/-- Intervals of a valid learned-interval record (R8). -/
def learnedIntervals : Nat := 8
/-- Reference ticks in one second: REFCLK is 125 MHz nominal (section 0.5). -/
def ticksPerSecond : Nat := 125000000
/-- Reference ticks in the 10 ms unit of the hold-off and the acknowledgement timeout (R39, R161). -/
def ticksPer10ms : Nat := 1250000
/-- The frame timer's 20 ms in reference ticks (R130). -/
def frameTimerTicks : Nat := 2500000
/-- Ticks a pair takes to carry one mark (R26). -/
def markTicks : Nat := 4
/-- The largest value of a 16-bit saturating counter (section 0.5). -/
def max16 : Nat := 65535
/-- The largest value of the steps since sync (R3). -/
def maxSteps : Nat := 4294967295

/-- DESIGN CHOICE, safe (log entry 3): which of several events that fall due at one tick is taken first. The manual leaves every such order open
("either may be taken first"), so nothing is known of this constant. -/
opaque tieBreak : Nat → Nat

/-- DESIGN CHOICE, safe (log entry 31): before how many of the steps caught up at one instant the edges of that instant come. R115 lets them come anywhere among those steps, so nothing
is known of this constant. -/
opaque edgePlace : Nat → Nat

end Sys2Proof.Config
end

