-- ==== Sys2Proof/Machine/State.lean ====
section
/-! DEFINITION. The state of the part as plain data, block by block (Table 0-2), the reasons a step could stop, and the state after power-on reset. -/

namespace Sys2Proof.Machine

/-! ## Time core (Chapter 1) -/

/-- Core states (Table 1-2). -/
inductive CoreState where
  | idle
  | acquiring
  | locked
  | holdover
  | free
  | master
  | halted
  deriving DecidableEq, Repr

/-- The latest sync record (R2). -/
structure SyncRecord where
  final : Time
  valid : Bool
  deriving DecidableEq, Repr

/-- The internal step generator (R7). `elapsed` counts the ticks since the instant of the last counted step (or since TIME_START or a halt
release), `spacing` those from that instant to the next step's, fixed when that step was counted; `fromRecord` says that this spacing is a
learned interval, and `cycle` names the learned interval to be taken next. -/
structure Generator where
  running : Bool
  elapsed : Nat
  spacing : Nat
  fromRecord : Bool
  cycle : Fin 8
  deriving DecidableEq, Repr

/-- State held by the time core (Table 1-1). -/
structure Core where
  time : Time
  valid : Bool
  state : CoreState
  takeover : Bool
  syncIndex : SyncIndex
  /-- Steps since sync, 0 to 4294967295 (R3). -/
  steps : Nat
  /-- Ticks since last step, 0 to 65535 (R4). -/
  ticks : Nat
  record : SyncRecord
  /-- Learned-interval record, oldest first (R8). -/
  learned : List Nat
  gen : Generator
  holdoverCount : Nat
  realignPending : Bool
  /-- The outbound-realign flag with the sync index of the sync that is to carry it (R18). -/
  outRealign : Option SyncIndex
  remembered : Option CoreState
  grade : Nat
  hops : Nat
  /-- The model's own (log entry 10): the index of the sync whose work is in progress; none between events. -/
  syncWork : Option SyncIndex
  deriving DecidableEq, Repr

/-- The halt policy (R20). -/
inductive HaltPolicy where
  | ignore
  | freeze
  deriving DecidableEq, Repr

/-- The halt line: the policy and the level of HALTN last judged (R20). -/
structure Halt where
  policy : HaltPolicy
  level : Level
  deriving DecidableEq, Repr

/-! ## Links and qualifiers (Chapters 2 and 3) -/

/-- The use of a link in the active plan (R23). -/
inductive Direction where
  | off
  | send
  | receive
  deriving DecidableEq, Repr

/-- A mark as it stands on a pair: its kind and the byte it carries, if any (section 2.2). -/
structure Mark where
  kind : MarkKind
  byte : Option Byte
  deriving DecidableEq, Repr

/-- A TIME_ANNOUNCE message (R35). -/
structure Announce where
  time : Time
  plan : PlanNo
  deriving DecidableEq, Repr

/-- A QUALITY message (R36). -/
structure Quality where
  grade : Nat
  hops : Nat
  takeover : Bool
  core : CoreState
  deriving DecidableEq, Repr

/-- State held by a link receiver (Table 2-1). -/
structure Receiver where
  /-- The message being assembled, its type byte first; empty when the receiver is in no message (R30). -/
  msg : List Byte
  discard : Bool
  annCur : Option Announce
  annLast : Option Announce
  qualCur : Option Quality
  qualLast : Option Quality
  deriving DecidableEq, Repr

/-- Qualifier states (R46 to R50). -/
inductive QualState where
  | off
  | seek
  | qualifying
  | valid
  | suspect
  | failed
  deriving DecidableEq, Repr

/-- State held by a qualifier (Table 3-1). A timer is `none` when stopped and else the ticks it still runs; `some 0` has expired and waits
to be taken. -/
structure Qualifier where
  state : QualState
  good : Nat
  bad : Nat
  phase : Option Nat
  lastInterval : Option Nat
  intervalSps : Option Nat
  announceSeen : Bool
  /-- Ticks since the link's previous measured mark, stopping at 65535 (R42). -/
  sinceMark : Nat
  loss : Option Nat
  hold : Option Nat
  badSteps : Nat
  syncFaults : Nat
  losses : Nat
  deriving DecidableEq, Repr

/-- A pair as the sender drives it (R26): the mark it is carrying, the ticks it still takes, and the marks waiting until it is free, first to
leave first. -/
structure Pair where
  mark : Option Mark
  busy : Nat
  waiting : List Mark
  deriving DecidableEq, Repr

/-- One link: direction, qualifier, receiver, settings (R38, R39) and pair. -/
structure LinkUnit where
  dir : Direction
  qual : Qualifier
  rx : Receiver
  /-- Link offset, signed (R38). -/
  offset : Byte
  /-- Recovery hold-off in units of 10 ms (R39). -/
  holdoff : Byte
  pair : Pair
  deriving DecidableEq, Repr

/-! ## Plans, selection, failover (Chapters 4 and 5) -/

/-- The role of a plan (section 4.4). -/
inductive Role where
  | master
  | backup
  | follower
  deriving DecidableEq, Repr

/-- The mismatch policy of a plan (R15). -/
inductive MismatchPolicy where
  | report
  | resync
  deriving DecidableEq, Repr

/-- A plan record (Table 4-2). -/
structure Plan where
  role : Role
  dirs : Per6 Direction
  cands : List LinkNo
  revertive : Bool
  worst : Nat
  nominal : Nat
  tolerance : Nat
  validity : Nat
  grace : Nat
  sps : Nat
  policy : MismatchPolicy
  limit : Nat
  deriving DecidableEq, Repr

/-- The plan table and the failover controller (R57, R76, R82). An EMPTY record is `none`. -/
structure PlanTable where
  records : Per4 (Option Plan)
  active : Option PlanNo
  fallback : List PlanNo
  held : Option PlanNo
  deriving DecidableEq, Repr

/-- The selection unit (R67). -/
structure Selection where
  source : Option LinkNo
  joined : Bool
  deriving DecidableEq, Repr

/-! ## Schedule (Chapter 6) -/

/-- What an action does when it fires, with the parameters of its kind (Table 6-2). -/
inductive Action where
  | load (value : Time)
  | switch (plan : PlanNo)
  | pulse (output : OutputNo) (width period : Nat)
  deriving DecidableEq, Repr

/-- How an entry ended (Table 6-2). -/
inductive Ending where
  | done
  | late
  | superseded
  | cancelled
  | flushed
  | refused
  deriving DecidableEq, Repr

/-- Where an entry came from (Table 6-2). -/
inductive Origin where
  | channel
  | link (l : LinkNo)
  deriving DecidableEq, Repr

/-- A schedule entry (Table 6-2). It is PENDING exactly while its outcome is absent. -/
structure Entry where
  id : Nat
  action : Action
  due : Time
  outcome : Option Ending
  origin : Origin
  orderId : Option OrderId
  sends : Nat
  reportedIn : Option SeqNo
  deriving DecidableEq, Repr

/-- State held by the schedule unit (Table 6-1). -/
structure Schedule where
  queue : List Entry
  spent : List OrderId
  nextId : Nat
  deriving DecidableEq, Repr

/-! ## Capture and pulse units (Chapter 7) -/

/-- The edge choice of a line (R113). -/
inductive EdgeChoice where
  | none
  | rising
  | falling
  | both
  deriving DecidableEq, Repr

/-- A capture record (Table 7-2). -/
structure CaptureRecord where
  line : EventLine
  edge : Edge
  time : Time
  ticks : Nat
  state : CoreState
  valid : Bool
  gap : Nat
  deriving DecidableEq, Repr

/-- State held by the capture unit (Table 7-1). -/
structure Capture where
  edges : Per4 EdgeChoice
  levels : Per4 Level
  fifo : List CaptureRecord
  gap : Nat
  deriving DecidableEq, Repr

/-- The polarity of a pulse output (R120). -/
inductive Polarity where
  | activeHigh
  | activeLow
  deriving DecidableEq, Repr

/-- State held by the pulse unit for one output (Table 7-3). -/
structure Pulse where
  polarity : Polarity
  active : Bool
  width : Nat
  deriving DecidableEq, Repr

/-! ## Notice unit (Chapter 10) -/

/-- The cause of a READY notice (R165). -/
inductive ReadyCause where
  | power
  | restart
  deriving DecidableEq, Repr

/-- The cause of a PLAN notice (R88). -/
inductive PlanCause where
  | start
  | ordered
  | failover
  | stop
  deriving DecidableEq, Repr

/-- The cause of a LINK notice (R54). -/
inductive LinkCause where
  | direction
  | goodCount
  | badStep
  | syncFault
  | loss
  | holdoffDone
  deriving DecidableEq, Repr

/-- The eight fault causes (Table 10-4). -/
inductive FaultCause where
  | timeMismatch
  | holdoverExpired
  | linkMessage
  | orderLate
  | orderDropped
  | channelCrc
  | channelFraming
  | channelOverrun
  deriving DecidableEq, Repr

/-- One item of an ACTIONS notice (R107). -/
structure ActionItem where
  id : Nat
  action : Action
  outcome : Ending
  orderId : Option OrderId
  deriving DecidableEq, Repr

/-- The twelve notice keys (Table 10-1). -/
inductive Key where
  | ready
  | plan
  | time
  | actions
  | capture
  | fault
  | link (l : LinkNo)
  deriving DecidableEq, Repr

/-- A notice with its contents (Table 10-3). A raise is a notice too: the contents a block hands over. -/
inductive Notice where
  | ready (cause : ReadyCause)
  | plan (active previous : Option PlanNo) (cause : PlanCause) (syncIndex : SyncIndex)
  | time (state previous : CoreState) (source : Option LinkNo) (grade hops : Nat) (jump : Option Time) (syncIndex : SyncIndex)
      (changes : Nat)
  | actions (items : List ActionItem)
  | capture (count : Nat)
  | fault (entries : List (FaultCause × Nat))
  | link (l : LinkNo) (state previous : QualState) (cause : LinkCause) (changes : Nat)
  deriving DecidableEq, Repr

/-- A notice of the window with the sequence number it carries (R166). -/
structure SentNotice where
  seq : SeqNo
  notice : Notice
  deriving DecidableEq, Repr

/-- The liveness state (R169). -/
inductive Liveness where
  | live
  | quiet
  deriving DecidableEq, Repr

/-- State held by the notice unit (Table 10-2). -/
structure NoticeUnit where
  /-- The pending notice list, oldest first (R162). -/
  unsent : List Notice
  window : List SentNotice
  /-- The notices of the window still to be sent again in this round (R168), by sequence number. -/
  resend : List SeqNo
  nextSeq : SeqNo
  retry : Nat
  timer : Option Nat
  liveness : Liveness
  /-- Acknowledgement timeout in units of 10 ms (R161). -/
  timeout : Nat
  /-- The kind-enable mask (R177). -/
  mask : Byte
  deriving DecidableEq, Repr

/-! ## Control channel (Chapter 8) -/

/-- The line rate (Table 8-2). -/
inductive LineRate where
  | b115200
  | b230400
  | b460800
  | b921600
  deriving DecidableEq, Repr

/-- A request frame as the handler sees it (R133). -/
structure Request where
  tag : Byte
  kind : Byte
  payload : List Byte
  deriving DecidableEq, Repr

/-- Response statuses (Table 9-1). -/
inductive Status where
  | ok
  | unknownKind
  | badLength
  | badValue
  | busy
  | wrongState
  | queueFull
  | duplicate
  | tooLate
  | notFound
  | planActive
  | planEmpty
  | planInvalid
  deriving DecidableEq, Repr

/-- A response: tag, response kind, status and the bytes of its fields (R140). -/
structure Response where
  tag : Byte
  kind : Byte
  status : Status
  fields : List Byte
  deriving DecidableEq, Repr

/-- A slot of the response list (R136). -/
inductive Slot where
  | reserved
  | filled (r : Response)
  deriving DecidableEq, Repr

/-- A frame handed to the line (R137). -/
inductive Outgoing where
  | response (r : Response)
  | notice (n : SentNotice)
  deriving DecidableEq, Repr

/-- The frame being sent. `left` is its line time still to run, in ticks times baud (R126): each tick takes one times the line rate. -/
structure Transmission where
  frame : Outgoing
  left : Nat
  deriving DecidableEq, Repr

/-- State held on the channel (Table 8-1). The receiver is in HUNT exactly when no byte is held. -/
structure Channel where
  rate : LineRate
  held : List Byte
  frameTimer : Option Nat
  requests : List Request
  handling : Option Request
  responses : List Slot
  sending : Option Transmission
  deriving DecidableEq, Repr

/-! ## The whole -/

/-- The blocks of the part. -/
structure Blocks where
  core : Core
  halt : Halt
  links : Per6 LinkUnit
  /-- The interval's outgoing message set, as its bytes; none before it is composed (R27). -/
  outSet : Option (List Byte)
  plans : PlanTable
  sel : Selection
  sched : Schedule
  capture : Capture
  pulses : Per4 Pulse
  channel : Channel
  notices : NoticeUnit
  deriving DecidableEq, Repr

/-- The state of the part, and the queue of commands waiting for it (first in, first out). -/
structure State extends Blocks where
  pending : List Instr
  /-- The model's own (log entry 3): how many tie breaks the idle step has drawn. -/
  choices : Nat
  /-- The model's own (log entry 31): the core as it stood between the steps that the latest catch-up of this instant counted, oldest first (R115). -/
  passing : List Core
  /-- The model's own (log entry 31): the blocks as the event of that catch-up, and the edges since, left them. While they stand so, an edge may still come
  between those steps. -/
  caughtUp : Option Blocks
  /-- The model's own (log entry 31): how many cores have been kept between caught-up steps. -/
  kept : Nat
  /-- The model's own (log entry 33): the time value and the ticks since step that the edges accepted at this tick carry; none before the first (R116). -/
  edgeAt : Option (Time × Nat)
  deriving DecidableEq, Repr

/-- No step of the part stops it: the manual answers every request with a status and counts every fault in a FAULT notice (R135, R164). So
no command raises a fault, and the type has no constructor (log entry 24). -/
inductive Fault where
  deriving DecidableEq, Repr

/-- Why a command has no meaning. -/
inductive Refusal where
  /-- Raised by exec's arm of a command that has no meaning yet; no arm raises it now. Safe: the machine stops. -/
  | notModelled (mnemonic : String)
  deriving DecidableEq, Repr

/-! ## Power-on reset -/

/-- Table 1-6, power-on reset. -/
def Core.reset : Core where
  time := 0
  valid := false
  state := .idle
  takeover := false
  syncIndex := 0
  steps := 0
  ticks := 0
  record := { final := 0, valid := false }
  learned := []
  gen := { running := false, elapsed := 0, spacing := 0, fromRecord := false, cycle := 0 }
  holdoverCount := 0
  realignPending := false
  outRealign := none
  remembered := none
  grade := 4
  hops := 15
  syncWork := none

/-- Table 2-5: the receiver with nothing received. -/
def Receiver.reset : Receiver where
  msg := []
  discard := false
  annCur := none
  annLast := none
  qualCur := none
  qualLast := none

/-- Table 3-6, power-on reset. -/
def Qualifier.reset : Qualifier where
  state := .off
  good := 0
  bad := 0
  phase := none
  lastInterval := none
  intervalSps := none
  announceSeen := false
  sinceMark := 0
  loss := none
  hold := none
  badSteps := 0
  syncFaults := 0
  losses := 0

/-- A pair that carries nothing. -/
def Pair.reset : Pair where
  mark := none
  busy := 0
  waiting := []

/-- Tables 2-5 and 3-6, power-on reset. -/
def LinkUnit.reset : LinkUnit where
  dir := .off
  qual := Qualifier.reset
  rx := Receiver.reset
  offset := 0
  holdoff := 10
  pair := Pair.reset

/-- Tables 4-7 and 5-4, power-on reset. -/
def PlanTable.reset : PlanTable where
  records := Per4.all none
  active := none
  fallback := []
  held := none

/-- Table 6-5, power-on reset. -/
def Schedule.reset : Schedule where
  queue := []
  spent := []
  nextId := 1

/-- Table 10-6, power-on reset. -/
def NoticeUnit.reset : NoticeUnit where
  unsent := [.ready .power]
  window := []
  resend := []
  nextSeq := 0
  retry := 0
  timer := none
  liveness := .live
  timeout := 50
  mask := 0x7F

/-- Table 8-4, power-on reset, at a line rate. -/
def Channel.reset (rate : LineRate) : Channel where
  rate := rate
  held := []
  frameTimer := none
  requests := []
  handling := none
  responses := []
  sending := none

/-- The part right after power-on reset, with the line rate its straps gave and the levels of the first judgement (R20, R113, R126). -/
def State.powerOn (rate : LineRate) (haltn : Level) (ev : Per4 Level) : State where
  pending := []
  choices := 0
  passing := []
  caughtUp := none
  kept := 0
  edgeAt := none
  core := Core.reset
  halt := { policy := .ignore, level := haltn }
  links := Per6.all LinkUnit.reset
  outSet := none
  plans := PlanTable.reset
  sel := { source := none, joined := false }
  sched := Schedule.reset
  capture := { edges := Per4.all .none, levels := ev, fifo := [], gap := 0 }
  pulses := Per4.all { polarity := .activeHigh, active := false, width := 0 }
  channel := Channel.reset rate
  notices := NoticeUnit.reset

/-- The part after power-on reset. DESIGN CHOICE, unsafe (log entry 6): the manual gives the straps and pins no level of their own; both straps
low, HALTN high and the event lines low are the model's. POWER_ON_RESET takes any. -/
def State.reset : State := State.powerOn .b115200 .high (Per4.all .low)

end Sys2Proof.Machine
end

