-- ==== Sys2Proof/Machine/Flags.lean ====
section
/-! DEFINITION. The flags, the grade and hops, and the generator of the time core: what Chapter 1 computes from the core alone. -/

namespace Sys2Proof.Machine

/-- A count that stops at its maximum (section 0.5). -/
def satSucc (max n : Nat) : Nat := min (n + 1) max

/-- The states in which the core counts steps (Table 1-2). -/
def counting : CoreState → Bool
  | .locked | .holdover | .free | .master => true
  | .idle | .acquiring | .halted => false

/-- The states in which the internal generator makes the steps (R7). -/
def generating : CoreState → Bool
  | .holdover | .free | .master => true
  | .idle | .acquiring | .locked | .halted => false

/-- The learned-interval record is valid while it holds 8 intervals (R8). -/
def learnedValid (c : Core) : Bool := c.learned.length == Config.learnedIntervals

/-- A good interval enters at the young end; the oldest of nine leaves (R8). -/
def learn (interval : Nat) (c : Core) : Core :=
  { c with learned := (c.learned ++ [interval]).drop (c.learned.length + 1 - Config.learnedIntervals) }

/-- The sync that carries a realign set now: the one that ends the interval after the sync whose work is in progress, and between syncs the one
that ends the current interval (R18). In ACQUIRING no announce is sent, so the join sync carries no realign (R173), and the first sync after a complete
announce is the one that ends the interval after it (R18, log entry 23). -/
def carryingSync (c : Core) : SyncIndex :=
  match c.syncWork with
  | some n => n + 1
  | none => if c.state = .acquiring then c.syncIndex + 2 else c.syncIndex + 1

/-- The outbound-realign flag set (R18). -/
def setRealign (c : Core) : Core := { c with outRealign := some (carryingSync c) }

/-- Own grade and hops after entering a state other than LOCKED (Table 1-4); LOCKED takes them from its source (`lockedGrade`). -/
def ownGrade (c : Core) : Core :=
  match c.state with
  | .master => if c.takeover then { c with grade := 2, hops := 0 } else { c with grade := 0, hops := 0 }
  | .holdover => { c with grade := 3 }
  | .free => { c with grade := 4 }
  | .acquiring | .idle => { c with grade := 4, hops := 15 }
  | .locked | .halted => c

/-- A latest QUALITY's grade and hops as the selection unit and the time core read them: none counts as grade 4, hops 14 (R34). -/
def readQuality (q : Option Quality) : Nat × Nat :=
  match q with
  | some q => (q.grade, q.hops)
  | none => (4, 14)

/-- Own grade and hops in LOCKED, from the joined source's latest QUALITY (R19). -/
def lockedGrade (q : Option Quality) (c : Core) : Core :=
  { c with grade := max 1 (readQuality q).1, hops := min 15 ((readQuality q).2 + 1) }

/-- The spacing of the interval that begins now, and whether it is a learned one (R7 a to c). -/
def nextSpacing (p : Plan) (c : Core) : Nat × Bool :=
  if (c.state = .holdover ∨ c.state = .free) ∧ learnedValid c then (c.learned.getD c.gen.cycle.val 0, true)
  else (p.nominal, false)

/-- The next step's instant fixed with the spacing now in force (R7). -/
def fixSpacing (p : Plan) (c : Core) : Core :=
  { c with gen := { c.gen with spacing := (nextSpacing p c).1, fromRecord := (nextSpacing p c).2 } }

/-- The generator stopped: entry into LOCKED, HALTED or IDLE (R7). -/
def stopGenerator (c : Core) : Core := { c with gen := { c.gen with running := false } }

/-- Entry into HOLDOVER, FREE or MASTER: the generator starts at the oldest learned interval unless it already runs (R7). -/
def enterGenerating (p : Plan) (st : CoreState) (c : Core) : Core :=
  let c := ownGrade { c with state := st }
  if c.gen.running then c
  else fixSpacing p { c with gen := { c.gen with running := true, cycle := 0 } }

/-- A takeover: MASTER with the takeover flag and the outbound-realign flag set, grade 2, hops 0. A core already in takeover does not take over
again (R12, R73). -/
def takeOver (p : Plan) (c : Core) : Core :=
  enterGenerating p .master (if c.takeover then c else setRealign { c with takeover := true })

/-- HOLDOVER or FREE for a core that carries on alone: FREE stays FREE, HOLDOVER stays with its count kept, and otherwise HOLDOVER with count 0
when the learned record is valid and FREE when it is not (R12, R9). -/
def carryOn (p : Plan) (was : CoreState) (c : Core) : Core :=
  match was with
  | .free => enterGenerating p .free c
  | .holdover => enterGenerating p .holdover c
  | _ =>
    if learnedValid c then enterGenerating p .holdover { c with holdoverCount := 0 }
    else enterGenerating p .free c

/-- The no-source path (R12) from the state `was`, under the active plan and the present selection. -/
def noSourcePath (p : Plan) (source : Option LinkNo) (was : CoreState) (c : Core) : Core :=
  match p.role, source with
  | .master, _ => enterGenerating p .master { c with takeover := false }
  | .backup, none => takeOver p c
  | .backup, some _ => if c.takeover then enterGenerating p .master c else carryOn p was c
  | .follower, _ => carryOn p was c

/-- The core's own response to a change of selection (R72, Table 4-5): a LOCKED core takes the no-source path, and a backup in HOLDOVER or FREE
that is left with no selection takes over. -/
def afterSelection (p : Plan) (source : Option LinkNo) (c : Core) : Core :=
  match c.state with
  | .locked => noSourcePath p source .locked c
  | .holdover | .free => if p.role = .backup ∧ source = none then takeOver p c else c
  | .idle | .acquiring | .master | .halted => c

/-- The core's own response to a change of active plan (R13). -/
def afterPlanChange (p : Plan) (sel : Selection) (c : Core) : Core :=
  match c.state with
  | .idle | .halted => c
  | st =>
    match p.role with
    | .master => enterGenerating p .master { c with takeover := false }
    | .backup | .follower =>
      let c := { c with takeover := false }
      if st = .locked ∧ sel.source.isSome ∧ sel.joined then c else noSourcePath p sel.source st c

/-- One step counted: the time value rises by one modulo 2^64 and the ticks since last step become 0 (R1, R4). -/
def countTime (c : Core) : Core := { c with time := c.time + 1, ticks := 0 }

/-- The values of TIME_STOP (Table 1-6). -/
def stoppedCore (c : Core) : Core :=
  { c with
    state := .idle, valid := false, steps := 0, record := { c.record with valid := false }, learned := [], holdoverCount := 0,
    realignPending := false, outRealign := none, takeover := false, remembered := none, grade := 4, hops := 15,
    gen := { c.gen with running := false } }

/-- Entry into HALTED: the state left is remembered and the generator stops; all else stands (R20 b). -/
def haltedCore (c : Core) : Core := stopGenerator { c with state := .halted, remembered := some c.state }

/-- The state a halted core resumes, before the flags of a release (R21 a to d). Nothing is caught up: the instant of the release counts as that
of the last step. -/
def resumedState (p : Plan) (sel : Selection) (quality : Option Quality) (c : Core) : Core :=
  let c := { c with gen := { c.gen with elapsed := 0 } }
  match c.remembered with
  | some .locked =>
    if sel.source.isSome ∧ sel.joined then lockedGrade quality { c with state := .locked } else noSourcePath p sel.source .locked c
  | some .acquiring => ownGrade { c with state := .acquiring }
  | some .master => if c.takeover then noSourcePath p sel.source .master c else enterGenerating p .master c
  | some st => noSourcePath p sel.source st c
  | none => noSourcePath p sel.source c.state c

/-- A release out of HALTED: the resumed state, the outbound-realign flag in every role (for ACQUIRING log entry 23), realign-pending for a follower or backup, and the
remembered state cleared (R21). -/
def releasedCore (p : Plan) (sel : Selection) (quality : Option Quality) (c : Core) : Core :=
  let c := setRealign (resumedState p sel quality c)
  { c with remembered := none, realignPending := c.realignPending || decide (p.role ≠ .master) }

end Sys2Proof.Machine
end

