-- ==== Sys2Proof/Machine/Operands.lean ====
section
/-! DEFINITION. Formats (Chapter 12): byte order, the two CRCs, the codes of Table 12-1, the layouts of requests, responses, records, notices and
link messages, and the checks a field's range calls for. -/

namespace Sys2Proof.Machine

/-! ## Numbers in bytes -/

/-- A number as `n` bytes, least significant byte first (section 0.5). -/
def leBytes : Nat → Nat → List Byte
  | 0, _ => []
  | n + 1, v => BitVec.ofNat 8 v :: leBytes n (v / 256)

/-- The number that bytes hold, least significant byte first. -/
def ofLeBytes : List Byte → Nat
  | [] => 0
  | b :: bs => b.toNat + 256 * ofLeBytes bs

/-- One byte holding a number. -/
def u8 (v : Nat) : List Byte := leBytes 1 v
/-- A u16 field. -/
def u16 (v : Nat) : List Byte := leBytes 2 v
/-- A u32 field. -/
def u32 (v : Nat) : List Byte := leBytes 4 v
/-- A u64 field. -/
def u64 (v : Time) : List Byte := leBytes 8 v.toNat

/-- The byte at an offset of a payload, as a number. -/
def byteAt (p : List Byte) (off : Nat) : Nat := (p.getD off 0).toNat

/-- The number in `n` bytes at an offset of a payload. -/
def numAt (p : List Byte) (off n : Nat) : Nat := ofLeBytes ((p.drop off).take n)

/-- The u64 at an offset of a payload. -/
def timeAt (p : List Byte) (off : Nat) : Time := BitVec.ofNat 64 (numAt p off 8)

/-- A signed byte as an addend of a 64-bit time value, modulo 2^64 (R38). -/
def offsetTime (o : Byte) : Time := o.signExtend 64

/-! ## The CRCs -/

/-- `n` shifts of the CRC-16 register (R132). -/
def crc16Shifts : Nat → BitVec 16 → BitVec 16
  | 0, r => r
  | n + 1, r => crc16Shifts n (if r.getLsbD 15 then (r <<< 1) ^^^ 0x1021#16 else r <<< 1)

/-- The CRC-16 of a channel frame: polynomial 0x1021, register 0xFFFF at the start, no reflection, no final inversion (R132). -/
def crc16 (bs : List Byte) : BitVec 16 :=
  bs.foldl (fun (r : BitVec 16) (b : Byte) => crc16Shifts 8 (r ^^^ (b.setWidth 16 <<< (8 : Nat)))) 0xFFFF#16

/-- `n` shifts of the CRC-8 register (R180). -/
def crc8Shifts : Nat → BitVec 8 → BitVec 8
  | 0, r => r
  | n + 1, r => crc8Shifts n (if r.getLsbD 7 then (r <<< 1) ^^^ 0x07#8 else r <<< 1)

/-- The CRC-8 of a link message: polynomial x^8 + x^2 + x + 1, register 0 at the start (R31, R180). -/
def crc8 (bs : List Byte) : BitVec 8 :=
  bs.foldl (fun (r b : Byte) => crc8Shifts 8 (r ^^^ b)) 0#8

/-! ## Codes (Table 12-1) -/

/-- A flag: 0 clear, 1 set. -/
def codeFlag (b : Bool) : Nat := if b then 1 else 0

/-- A flag's code read; another byte is out of range. -/
def flagOf : Nat → Option Bool
  | 0 => some false
  | 1 => some true
  | _ => none

/-- A link, plan, line or output as a byte: the digit of its name; 0xFF for none. -/
def codeOpt {n : Nat} (x : Option (Fin n)) : Nat := (x.map Fin.val).getD 0xFF

/-- A plan index read: 0 to 3. -/
def planOf (v : Nat) : Option PlanNo := if h : v < 4 then some ⟨v, h⟩ else none

/-- A link number read: 0 to 5. -/
def linkOf (v : Nat) : Option LinkNo := if h : v < 6 then some ⟨v, h⟩ else none

/-- Role codes. -/
def codeRole : Role → Nat
  | .master => 0
  | .backup => 1
  | .follower => 2

/-- A role read. -/
def roleOf : Nat → Option Role
  | 0 => some .master
  | 1 => some .backup
  | 2 => some .follower
  | _ => none

/-- Direction codes. -/
def codeDirection : Direction → Nat
  | .off => 0
  | .send => 1
  | .receive => 2

/-- A direction read. -/
def directionOf : Nat → Option Direction
  | 0 => some .off
  | 1 => some .send
  | 2 => some .receive
  | _ => none

/-- Mismatch policy codes. -/
def codePolicy : MismatchPolicy → Nat
  | .report => 0
  | .resync => 1

/-- A mismatch policy read. -/
def policyOf : Nat → Option MismatchPolicy
  | 0 => some .report
  | 1 => some .resync
  | _ => none

/-- Core state codes. -/
def codeCoreState : CoreState → Nat
  | .idle => 0
  | .acquiring => 1
  | .locked => 2
  | .holdover => 3
  | .free => 4
  | .master => 5
  | .halted => 6

/-- The core state of a QUALITY read: one of 2 to 5 (R36, Table 12-12). -/
def sendingStateOf : Nat → Option CoreState
  | 2 => some .locked
  | 3 => some .holdover
  | 4 => some .free
  | 5 => some .master
  | _ => none

/-- Qualifier state codes. -/
def codeQualState : QualState → Nat
  | .off => 0
  | .seek => 1
  | .qualifying => 2
  | .valid => 3
  | .suspect => 4
  | .failed => 5

/-- Action kind codes. -/
def codeKind : Action → Nat
  | .load _ => 1
  | .switch _ => 2
  | .pulse _ _ _ => 3

/-- Outcome codes, 0 for absent. -/
def codeOutcome : Option Ending → Nat
  | none => 0
  | some .done => 1
  | some .late => 2
  | some .superseded => 3
  | some .cancelled => 4
  | some .flushed => 5
  | some .refused => 6

/-- Origin codes. -/
def codeOrigin : Origin → Nat
  | .channel => 0x80
  | .link l => l.val

/-- Edge choice codes. -/
def codeEdgeChoice : EdgeChoice → Nat
  | .none => 0
  | .rising => 1
  | .falling => 2
  | .both => 3

/-- An edge choice read. -/
def edgeChoiceOf : Nat → Option EdgeChoice
  | 0 => some .none
  | 1 => some .rising
  | 2 => some .falling
  | 3 => some .both
  | _ => none

/-- Edge codes of a capture record. -/
def codeEdge : Edge → Nat
  | .rising => 1
  | .falling => 2

/-- Polarity codes. -/
def codePolarity : Polarity → Nat
  | .activeHigh => 0
  | .activeLow => 1

/-- A polarity read. -/
def polarityOf : Nat → Option Polarity
  | 0 => some .activeHigh
  | 1 => some .activeLow
  | _ => none

/-- Halt policy codes. -/
def codeHaltPolicy : HaltPolicy → Nat
  | .ignore => 0
  | .freeze => 1

/-- A halt policy read. -/
def haltPolicyOf : Nat → Option HaltPolicy
  | 0 => some .ignore
  | 1 => some .freeze
  | _ => none

/-- A level in a response: 0 low, 1 high (Table 12-8). -/
def codeLevel : Level → Nat
  | .low => 0
  | .high => 1

/-- LINK cause codes. -/
def codeLinkCause : LinkCause → Nat
  | .direction => 1
  | .goodCount => 2
  | .badStep => 3
  | .syncFault => 4
  | .loss => 5
  | .holdoffDone => 6

/-- PLAN cause codes. -/
def codePlanCause : PlanCause → Nat
  | .start => 0
  | .ordered => 1
  | .failover => 2
  | .stop => 3

/-- READY cause codes. -/
def codeReadyCause : ReadyCause → Nat
  | .power => 0
  | .restart => 1

/-- FAULT cause codes. -/
def codeFaultCause : FaultCause → Nat
  | .timeMismatch => 1
  | .holdoverExpired => 2
  | .linkMessage => 3
  | .orderLate => 4
  | .orderDropped => 5
  | .channelCrc => 6
  | .channelFraming => 7
  | .channelOverrun => 8

/-- Status codes (Table 12-4). -/
def codeStatus : Status → Nat
  | .ok => 0x00
  | .unknownKind => 0x01
  | .badLength => 0x02
  | .badValue => 0x03
  | .busy => 0x04
  | .wrongState => 0x05
  | .queueFull => 0x06
  | .duplicate => 0x07
  | .tooLate => 0x08
  | .notFound => 0x09
  | .planActive => 0x0A
  | .planEmpty => 0x0B
  | .planInvalid => 0x0C

/-- The KIND of a notice: the code of its key (Table 12-3). -/
def codeNoticeKind : Notice → Nat
  | .ready _ => 0x40
  | .plan _ _ _ _ => 0x41
  | .time _ _ _ _ _ _ _ _ => 0x42
  | .actions _ => 0x43
  | .capture _ => 0x44
  | .fault _ => 0x45
  | .link l _ _ _ _ => 0x46 + l.val

/-! ## Action parameters (Table 12-7), shared by ACTION_ADD, ACTION_LIST and ORDER -/

/-- The 8 parameter bytes of an action; unused bytes are sent as 0. -/
def actionBytes : Action → List Byte
  | .load v => u64 v
  | .switch p => u8 p.val ++ List.replicate 7 0
  | .pulse o w q => u8 o.val ++ u16 w ++ u16 q ++ List.replicate 3 0

/-- An action read from its kind code and its 8 parameter bytes. A kind that is none of the three, a SWITCH plan or PULSE output above 3 and a
PULSE width of 0 are out of range (R93 check 3, R37); bytes that the kind does not use are not read. -/
def actionOf (kind : Nat) (p : List Byte) : Option Action :=
  match kind with
  | 1 => some (.load (timeAt p 0))
  | 2 => (planOf (byteAt p 0)).map .switch
  | 3 =>
    match planOf (byteAt p 0) with
    | none => none
    | some o => if numAt p 1 2 = 0 then none else some (.pulse o (numAt p 1 2) (numAt p 3 2))
  | _ => none

/-! ## The plan record (Table 12-6) -/

/-- The 23 bytes of a plan record; places beyond the number of candidates are sent as 0. -/
def planBytes (p : Plan) : List Byte :=
  u8 (codeRole p.role) ++ p.dirs.toList.flatMap (fun d => u8 (codeDirection d)) ++ u8 p.cands.length
    ++ (p.cands.map (fun l => BitVec.ofNat 8 l.val) ++ List.replicate (3 - p.cands.length) 0) ++ u8 (codeFlag p.revertive) ++ u8 p.worst
    ++ u16 p.nominal ++ u8 p.tolerance ++ u8 p.validity ++ u8 p.grace ++ u16 p.sps ++ u8 (codePolicy p.policy) ++ u16 p.limit

/-- The six directions at the start of a byte string; none when one of them names no direction. -/
def dirsOf (r : List Byte) : Option (Per6 Direction) :=
  match directionOf (byteAt r 0), directionOf (byteAt r 1), directionOf (byteAt r 2), directionOf (byteAt r 3), directionOf (byteAt r 4),
      directionOf (byteAt r 5) with
  | some d0, some d1, some d2, some d3, some d4, some d5 => some ⟨d0, d1, d2, d3, d4, d5⟩
  | _, _, _, _, _, _ => none

/-- The links that bytes name, in order; none when one names no link (R62 b). -/
def linksOf : List Byte → Option (List LinkNo)
  | [] => some []
  | b :: bs =>
    match linkOf b.toNat, linksOf bs with
    | some l, some ls => some (l :: ls)
    | _, _ => none

/-- The candidate list of a record, checked by R62 against the role and the directions; none when field 3 fails. -/
def candsOf (role : Role) (dirs : Per6 Direction) (count : Nat) (places : List Byte) : Option (List LinkNo) :=
  if 3 < count then none
  else
    match linksOf (places.take count) with
    | none => none
    | some ls =>
      if ls.Nodup ∧ (∀ l ∈ ls, dirs.get l = .receive) ∧ (role = .master ↔ ls = []) then some ls else none

/-- A plan record of 23 bytes validated by R61 and R62: the record, or the number of the first field that fails. -/
def planOfBytes (r : List Byte) : Except Nat Plan :=
  match roleOf (byteAt r 0) with
  | none => .error 1
  | some role =>
    match dirsOf (r.drop 1) with
    | none => .error 2
    | some dirs =>
      match candsOf role dirs (byteAt r 7) ((r.drop 8).take 3) with
      | none => .error 3
      | some cands =>
        match flagOf (byteAt r 11) with
        | none => .error 4
        | some revertive =>
          if ¬(1 ≤ byteAt r 12 ∧ byteAt r 12 ≤ 4) then .error 5
          else if ¬(16 ≤ numAt r 13 2 ∧ numAt r 13 2 ≤ 1023) then .error 6
          else if ¬byteAt r 15 ≤ 63 then .error 7
          else if ¬1 ≤ byteAt r 16 then .error 8
          else if ¬(1 ≤ byteAt r 17 ∧ byteAt r 17 ≤ 15) then .error 9
          else if ¬(64 ≤ numAt r 18 2 ∧ numAt r 18 2 ≤ 8192) then .error 10
          else
            match policyOf (byteAt r 20) with
            | none => .error 11
            | some policy =>
              .ok { role := role, dirs := dirs, cands := cands, revertive := revertive, worst := byteAt r 12, nominal := numAt r 13 2,
                    tolerance := byteAt r 15, validity := byteAt r 16, grace := byteAt r 17, sps := numAt r 18 2, policy := policy,
                    limit := numAt r 21 2 }

/-! ## Listed entries, capture records (Tables 12-9 and 12-10) -/

/-- A schedule entry as listed, 27 bytes. -/
def entryBytes (e : Entry) : List Byte :=
  u8 e.id ++ u8 (codeKind e.action) ++ u64 e.due ++ u8 (codeFlag e.outcome.isSome) ++ u8 (codeOutcome e.outcome) ++ u8 (codeOrigin e.origin)
    ++ u16 ((e.orderId.map BitVec.toNat).getD 0) ++ u8 e.sends ++ u8 (codeFlag e.reportedIn.isSome)
    ++ u16 ((e.reportedIn.map BitVec.toNat).getD 0) ++ actionBytes e.action

/-- A capture record, 16 bytes. -/
def captureBytes (r : CaptureRecord) : List Byte :=
  u8 r.line.val ++ u8 (codeEdge r.edge) ++ u64 r.time ++ u16 r.ticks ++ u8 (codeCoreState r.state) ++ u8 (codeFlag r.valid) ++ u16 r.gap

/-! ## Notices and frames (Tables 12-2 and 12-11) -/

/-- The contents of a notice, from offset 2 of its payload. -/
def noticeBytes : Notice → List Byte
  | .ready cause => u8 (codeReadyCause cause) ++ u16 Config.partCode ++ u8 Config.revision
  | .plan active previous cause idx => u8 (codeOpt active) ++ u8 (codeOpt previous) ++ u8 (codePlanCause cause) ++ u32 idx.toNat
  | .time st prev src grade hops jump idx changes =>
    u8 (codeCoreState st) ++ u8 (codeCoreState prev) ++ u8 (codeOpt src) ++ u8 grade ++ u8 hops ++ u8 (codeFlag jump.isSome)
      ++ u64 (jump.getD 0) ++ u32 idx.toNat ++ u8 changes
  | .actions items =>
    u8 items.length ++ items.flatMap (fun i =>
      u8 i.id ++ u8 (codeKind i.action) ++ u8 (codeOutcome (some i.outcome)) ++ u16 ((i.orderId.map BitVec.toNat).getD 0))
  | .capture count => u8 count
  | .fault entries => u8 entries.length ++ entries.flatMap (fun e => u8 (codeFaultCause e.1) ++ u8 e.2)
  | .link _ st prev cause changes => u8 (codeQualState st) ++ u8 (codeQualState prev) ++ u8 (codeLinkCause cause) ++ u8 changes

/-- A whole channel frame: START, LEN, TAG, KIND, payload and CRC-16, low byte first (R132, R176). -/
def frame (tag kind : Byte) (payload : List Byte) : List Byte :=
  let body := u8 (payload.length + 2) ++ [tag, kind] ++ payload
  0x5B#8 :: (body ++ u16 (crc16 body).toNat)

/-- The payload of a response: the status byte and the fields of its kind (R140). -/
def responsePayload (r : Response) : List Byte := u8 (codeStatus r.status) ++ r.fields

/-- The bytes on CTX of a frame handed to the line; a notice has TAG 0 and its sequence number first (R179). -/
def outgoingBytes : Outgoing → List Byte
  | .response r => frame r.tag r.kind (responsePayload r)
  | .notice n => frame 0 (BitVec.ofNat 8 (codeNoticeKind n.notice)) (u16 n.seq.toNat ++ noticeBytes n.notice)

/-- The line rate in baud (Table 8-2). -/
def baud : LineRate → Nat
  | .b115200 => 115200
  | .b230400 => 230400
  | .b460800 => 460800
  | .b921600 => 921600

/-- The line rate that the straps choose (Table 8-2). -/
def rateOf : (baud1 baud0 : Level) → LineRate
  | .low, .low => .b115200
  | .low, .high => .b230400
  | .high, .low => .b460800
  | .high, .high => .b921600

/-- The line time of a frame in ticks times baud: ten bit periods a byte (R126), a bit period being ticksPerSecond / baud ticks. -/
def lineTime (f : Outgoing) : Nat := (outgoingBytes f).length * 10 * Config.ticksPerSecond

/-! ## Link messages (Table 12-12) -/

/-- An ORDER as it is carried (R37). -/
structure Order where
  id : OrderId
  due : Time
  action : Action
  deriving DecidableEq, Repr

/-- The three link messages (section 2.6). -/
inductive LinkMessage where
  | announce (a : Announce)
  | quality (q : Quality)
  | order (o : Order)
  deriving DecidableEq, Repr

/-- The type byte of an ORDER by its kind (R180). -/
def orderType : Action → Byte
  | .load _ => 0xB1
  | .switch _ => 0xB2
  | .pulse _ _ _ => 0xB3

/-- The type byte and fields of a message, before its CRC-8. -/
def messageBody : LinkMessage → List Byte
  | .announce a => 0xA1#8 :: (u64 a.time ++ u8 a.plan.val)
  | .quality q => 0xA2#8 :: (u8 q.grade ++ u8 q.hops ++ u8 (codeFlag q.takeover) ++ u8 (codeCoreState q.core))
  | .order o => orderType o.action :: (u16 o.id.toNat ++ u64 o.due ++ actionBytes o.action)

/-- A link message as sent: its body and its CRC-8 (R180). -/
def messageBytes (m : LinkMessage) : List Byte := messageBody m ++ [crc8 (messageBody m)]

/-- The length that a type byte fixes, CRC-8 included (Table 2-4); none for an unknown type. -/
def messageLength (type : Byte) : Option Nat :=
  if type = 0xA1 then some 11
  else if type = 0xA2 then some 6
  else if type = 0xB1 ∨ type = 0xB2 ∨ type = 0xB3 then some 20
  else none

/-- A QUALITY read from its whole message (R36). -/
def qualityOf (m : List Byte) : Option Quality :=
  match flagOf (byteAt m 3), sendingStateOf (byteAt m 4) with
  | some t, some c => if byteAt m 1 ≤ 4 ∧ byteAt m 2 ≤ 15 then some ⟨byteAt m 1, byteAt m 2, t, c⟩ else none
  | _, _ => none

/-- An ORDER read from its whole message (R37): an order id of 0 is out of range. -/
def orderOf (m : List Byte) : Option Order :=
  match actionOf (byteAt m 0 - 0xB0) (m.drop 11) with
  | some a => if numAt m 1 2 = 0 then none else some ⟨BitVec.ofNat 16 (numAt m 1 2), timeAt m 3, a⟩
  | none => none

/-- A whole message checked by R31 and the ranges of section 2.6: its CRC-8 and then every field; none when it is to be discarded. -/
def messageOf (m : List Byte) : Option LinkMessage :=
  if crc8 m.dropLast ≠ m.getD (m.length - 1) 0 then none
  else if m.getD 0 0 = 0xA1 then (planOf (byteAt m 9)).map (fun p => .announce ⟨timeAt m 1, p⟩)
  else if m.getD 0 0 = 0xA2 then (qualityOf m).map .quality
  else (orderOf m).map .order

end Sys2Proof.Machine
end

