-- ==== Sys2Proof/Machine/Ops.lean ====
section
/-! DEFINITION. The named operations over the state that every family shares: the active plan, one link, raising and coalescing notices, counting a
fault, the pulse outputs, taking a request and placing its response, and the transmitter's choice of the next frame. -/

namespace Sys2Proof.Machine

/-! ## Reading and writing parts of the state -/

/-- The record of the active plan; none when no plan is active (R57). -/
def activePlan (s : State) : Option Plan := s.plans.active.bind s.plans.records.get

/-- One link. -/
def link (l : LinkNo) (s : State) : LinkUnit := s.links.get l

/-- One link replaced. -/
def setLink (l : LinkNo) (u : LinkUnit) (s : State) : State := { s with links := s.links.set l u }

/-- The core replaced. -/
def setCore (c : Core) (s : State) : State := { s with core := c }

/-- L0 to L5 in order. -/
def allLinks : List LinkNo := [0, 1, 2, 3, 4, 5]

/-- The latest QUALITY of a receiver (R34). -/
def latestQuality (rx : Receiver) : Option Quality := rx.qualCur.or rx.qualLast

/-- The latest announce of a receiver, for LINK_READ (R33). -/
def latestAnnounce (rx : Receiver) : Option Announce := rx.annCur.or rx.annLast

/-- The latest QUALITY of the selected source. -/
def sourceQuality (s : State) : Option Quality := s.sel.source.bind (fun l => latestQuality (link l s).rx)

/-! ## Notices (R162 to R164) -/

/-- The key a notice belongs to (Table 10-1). -/
def noticeKey : Notice → Key
  | .ready _ => .ready
  | .plan _ _ _ _ => .plan
  | .time _ _ _ _ _ _ _ _ => .time
  | .actions _ => .actions
  | .capture _ => .capture
  | .fault _ => .fault
  | .link l _ _ _ _ => .link l

/-- The bit of the kind-enable mask that enables a key's kind (R177). -/
def maskBit : Key → Nat
  | .ready => 0
  | .plan => 1
  | .time => 2
  | .actions => 3
  | .capture => 4
  | .fault => 5
  | .link _ => 6

/-- A FAULT list with one raise counted into it: added to the entry of its cause, stopping at 255, or appended (R163). -/
def countFault (c : FaultCause) (n : Nat) : List (FaultCause × Nat) → List (FaultCause × Nat)
  | [] => [(c, n)]
  | e :: es => if e.1 = c then (e.1, min (e.2 + n) 255) :: es else e :: countFault c n es

/-- A raise folded into the unsent notice of its key (Table 10-3). -/
def coalesce (old new : Notice) : Notice :=
  match old, new with
  | .plan _ prev _ _, .plan active _ cause idx => .plan active prev cause idx
  | .time _ prev _ _ _ jump _ changes, .time st _ src grade hops jump' idx _ =>
    .time st prev src grade hops (jump'.or jump) idx (min (changes + 1) 255)
  | .actions items, .actions more => .actions (items ++ more)
  | .capture _, .capture count => .capture count
  | .fault es, .fault more => .fault (more.foldl (fun acc e => countFault e.1 e.2 acc) es)
  | .link l _ prev _ changes, .link _ st _ cause _ => .link l st prev cause (min (changes + 1) 255)
  | _, new => new

/-- A raise put into the pending list: folded into the unsent notice of its key where one stands, which keeps its place, and else made new at the
young end (R162 b, c). -/
def putNotice (n : Notice) : List Notice → List Notice
  | [] => [n]
  | m :: ms => if noticeKey m = noticeKey n then coalesce m n :: ms else m :: putNotice n ms

/-- R162 on the notice unit: a raise of a disabled kind is not made. -/
def raised (n : Notice) (u : NoticeUnit) : NoticeUnit :=
  if u.mask.getLsbD (maskBit (noticeKey n)) then { u with unsent := putNotice n u.unsent } else u

/-- A block raises a notice (R162). -/
def raise (n : Notice) (s : State) : State := { s with notices := raised n s.notices }

/-- One occurrence of a fault counted in the FAULT notice (R164). -/
def raiseFault (c : FaultCause) (s : State) : State := raise (.fault [(c, 1)]) s

/-- The time core raises a TIME notice: the state as it stands after the event, the state before it, and the jump, if any (R6). -/
def raiseTime (previous : CoreState) (jump : Option Time) (s : State) : State :=
  raise (.time s.core.state previous s.sel.source s.core.grade s.core.hops jump s.core.syncIndex 1) s

/-- A qualifier raises the LINK notice of a change of its state (R54). -/
def raiseLink (l : LinkNo) (previous : QualState) (cause : LinkCause) (s : State) : State :=
  raise (.link l (link l s).qual.state previous cause 1) s

/-- The failover controller raises a PLAN notice (R88). -/
def raisePlan (previous : Option PlanNo) (cause : PlanCause) (idx : SyncIndex) (s : State) : State :=
  raise (.plan s.plans.active previous cause idx) s

/-! ## Pulse outputs (R120 to R123) -/

/-- The end of a width: an active output whose remaining width has reached 0 becomes inactive (R122). -/
def endWidth (q : Pulse) : Pulse := if q.active ∧ q.width = 0 then { q with active := false } else q

/-- One counted step: the remaining width of an active output falls by one, and at 0 the output becomes inactive (R122). -/
def stepPulse (q : Pulse) : Pulse := if q.active then endWidth { q with width := q.width - 1 } else q

/-- An output forced inactive with its width abandoned (R123). -/
def idlePulse (q : Pulse) : Pulse := { q with active := false, width := 0 }

/-- Every output forced inactive (R123). -/
def forcePulses (s : State) : State := { s with pulses := s.pulses.map idlePulse }

/-- A PULSE fires: its output becomes active, or stays so, with the new width (R121). -/
def startPulse (o : OutputNo) (width : Nat) (s : State) : State :=
  { s with pulses := s.pulses.set o { s.pulses.get o with active := true, width := width } }

/-- The level an output drives on its pin (R120). -/
def pinLevel (q : Pulse) : Level :=
  match q.polarity, q.active with
  | .activeHigh, true => .high
  | .activeHigh, false => .low
  | .activeLow, true => .low
  | .activeLow, false => .high

/-! ## Emitting marks (R26) -/

/-- A mark handed to a pair: it leaves at once on an idle pair and waits behind the marks ahead of it otherwise (R26). -/
def pairSend (m : Mark) (p : Pair) : Pair :=
  if p.busy = 0 ∧ p.waiting = [] then { p with mark := some m, busy := Config.markTicks } else { p with waiting := p.waiting ++ [m] }

/-- The conditions under which a link emits marks, its direction apart: a counting state with time valid (R26). -/
def mayEmit (c : Core) : Bool := counting c.state && c.valid

/-- Every SEND link emits a mark for the step just counted (R26). -/
def emit (m : Mark) (s : State) : State :=
  if mayEmit s.core then
    { s with links := s.links.map (fun u => if u.dir = .send then { u with pair := pairSend m u.pair } else u) }
  else s

/-! ## The transmitter (R137, R166) -/

/-- The notice unit's offer to the transmitter (R166). -/
inductive Offer where
  | again (n : SentNotice)
  | fresh (n : Notice)
  deriving DecidableEq, Repr

/-- What the notice unit offers: while LIVE, the oldest of the resend list, else the oldest unsent notice when the window has room (R166). -/
def noticeOffer (u : NoticeUnit) : Option Offer :=
  match u.liveness with
  | .quiet => none
  | .live =>
    match u.resend with
    | q :: _ => (u.window.find? (fun n => n.seq == q)).map .again
    | [] => if u.window.length < Config.windowSize then u.unsent.head?.map .fresh else none

/-- The acknowledgement timer's length with the timeout in force (R166, R168). -/
def ackTicks (u : NoticeUnit) : Nat := u.timeout * Config.ticksPer10ms

/-- The entries that an ACTIONS notice lists record its sequence number (R108). -/
def recordReport (q : SeqNo) (n : Notice) (c : Schedule) : Schedule :=
  match n with
  | .actions items => { c with queue := c.queue.map (fun e => if e.id ∈ items.map ActionItem.id then { e with reportedIn := some q } else e) }
  | _ => c

/-- A frame handed to the line. -/
def beginFrame (f : Outgoing) (s : State) : State :=
  { s with channel := { s.channel with sending := some { frame := f, left := lineTime f } } }

/-- The transmitter begins to send an offered notice (R166): a resend leaves the resend list; a new notice leaves the pending list, takes the next
sequence number and joins the window; the acknowledgement timer is restarted at either. -/
def beginNotice (o : Offer) (s : State) : State :=
  match o with
  | .again n =>
    beginFrame (.notice n) { s with notices := { s.notices with resend := s.notices.resend.tail, timer := some (ackTicks s.notices) } }
  | .fresh n =>
    let sent : SentNotice := { seq := s.notices.nextSeq, notice := n }
    beginFrame (.notice sent)
      { s with
        notices := { s.notices with
          unsent := s.notices.unsent.tail, window := s.notices.window ++ [sent], nextSeq := s.notices.nextSeq + 1,
          timer := some (ackTicks s.notices) }
        sched := recordReport sent.seq n s.sched }

/-- The transmitter chooses the next frame when the line is free: a ready response before any notice (R137). -/
def transmit (s : State) : State :=
  match s.channel.sending with
  | some _ => s
  | none =>
    match s.channel.responses with
    | .filled r :: _ => beginFrame (.response r) s
    | _ =>
      match noticeOffer s.notices with
      | some o => beginNotice o s
      | none => s

/-! ## Taking a request and answering it (R128, R135, R136) -/

/-- The kind of the response to a request of a kind (R128). -/
def responseKind (k : Byte) : Byte := if 1 ≤ k.toNat ∧ k.toNat ≤ 0x3F then k + 0x80 else 0x80

/-- The oldest reserved slot filled with a response; it belongs to the request now answered, since slots stand in arrival order (R136). -/
def fillSlot (r : Response) : List Slot → List Slot
  | [] => []
  | .reserved :: ss => .filled r :: ss
  | .filled q :: ss => .filled q :: fillSlot r ss

/-- What a request is answered with: a status and, with OK or PLAN_INVALID, the fields that follow (R140). -/
structure Answer where
  status : Status
  fields : List Byte
  deriving DecidableEq, Repr

/-- A status alone (R140). -/
def refuse (st : Status) : Answer := ⟨st, []⟩

/-- The response of a request placed in its slot (R135). -/
def placeResponse (r : Request) (a : Answer) (s : State) : State :=
  { s with channel := { s.channel with
      responses := fillSlot { tag := r.tag, kind := responseKind r.kind, status := a.status, fields := a.fields } s.channel.responses } }

/-- The oldest request leaves the queue for the handler, which holds none and has no restart pending (R135). -/
def oldestRequest (s : State) : Option Request :=
  match s.channel.handling with
  | some _ => none
  | none => s.channel.requests.head?

/-- The request taken off the queue. -/
def dequeue (s : State) : State := { s with channel := { s.channel with requests := s.channel.requests.tail } }

/-- The handler takes the oldest request when its kind is one of `kinds`, carries it out whole, places its response, and the transmitter, told of
it, chooses (R135, R137). When the handler cannot take such a request the event does not occur and nothing changes (log entry 2). DESIGN CHOICE, unsafe (log
entry 32): the manual gives no time between the taking and the response, and the model places the response in the same event. -/
def handle (kinds : Byte → Bool) (carryOut : Request → State → Answer × State) (s : State) : State :=
  match oldestRequest s with
  | none => s
  | some r =>
    if kinds r.kind then
      let out := carryOut r (dequeue s)
      transmit (placeResponse r out.1 out.2)
    else s

/-- A request kind's general length check and then its own checks and effect (R135 b, R140). -/
def withLength (lengths : List Nat) (body : List Byte → State → Answer × State) (r : Request) (s : State) : Answer × State :=
  if r.payload.length ∈ lengths then body r.payload s else (refuse .badLength, s)

end Sys2Proof.Machine
end

