-- ==== Sys2Proof/Machine/Schedule.lean ====
section
/-! DEFINITION. The action schedule (Chapter 6): the queue by due, insertion, offers for carriage, firing, cancel, flush and release. -/

namespace Sys2Proof.Machine

/-! ## The queue (R90, R91) -/

/-- An entry placed after every entry whose due is not greater than its own (R90). -/
def insertByDue (e : Entry) : List Entry → List Entry
  | [] => [e]
  | x :: xs => if x.due.toNat ≤ e.due.toNat then x :: insertByDue e xs else e :: x :: xs

/-- The action id after one: 255 is followed by 1 (R91). -/
def succId (n : Nat) : Nat := if n ≥ 255 then 1 else n + 1

/-- The first id from `n` on, cyclically, that no entry holds (R91); `fuel` bounds the search over the 255 ids. -/
def freeId (q : List Entry) : Nat → Nat → Nat
  | 0, n => n
  | fuel + 1, n => if n ∈ q.map Entry.id then freeId q fuel (succId n) else n

/-- One PENDING entry inserted with a fresh action id; the counter moves to the value after it (R91, R94, R96). -/
def insertAction (a : Action) (due : Time) (origin : Origin) (orderId : Option OrderId) (sends : Nat) (c : Schedule) : Nat × Schedule :=
  let id := freeId c.queue 255 c.nextId
  (id, { c with
    queue := insertByDue { id := id, action := a, due := due, outcome := none, origin := origin, orderId := orderId, sends := sends,
                           reportedIn := none } c.queue
    nextId := succId id })

/-- An order id is held by an entry of either state, or stands in the spent order list (R93 check 4, R95 a). -/
def orderKnown (o : OrderId) (c : Schedule) : Bool := c.queue.any (fun e => e.orderId == some o) || c.spent.contains o

/-- The queue holds 32 entries of either state (R90). -/
def queueFull (c : Schedule) : Bool := decide (Config.scheduleSlots ≤ c.queue.length)

/-- The due has been passed: at or below the final value of the latest sync record (R93 check 2, R95 b). -/
def duePassed (due : Time) (s : State) : Bool := decide (due.toNat ≤ s.core.record.final.toNat)

/-! ## Reporting (R107) -/

/-- The item that reports a FINISHED entry (R107). -/
def itemOf (e : Entry) (o : Ending) : ActionItem := { id := e.id, action := e.action, outcome := o, orderId := e.orderId }

/-- One item raised for the ACTIONS notice (R107). -/
def raiseItem (e : Entry) (o : Ending) (s : State) : State := raise (.actions [itemOf e o]) s

/-! ## Received orders (R95, R96) -/

/-- The LOAD value of an order takes the link offset of the link it arrived on; due times and other parameters do not (R38, R96 b). -/
def offsetAction (o : Byte) : Action → Action
  | .load v => .load (v + offsetTime o)
  | .switch p => .switch p
  | .pulse out w p => .pulse out w p

/-- An accepted ORDER of the selected source: ignored as a repeat, discarded as late or for want of a slot, or inserted (R95). -/
def receiveOrder (l : LinkNo) (o : Order) (s : State) : State :=
  if orderKnown o.id s.sched then s
  else if s.core.valid ∧ duePassed o.due s then raiseFault .orderLate s
  else if queueFull s.sched then raiseFault .orderDropped s
  else { s with sched := (insertAction (offsetAction (link l s).offset o.action) o.due (.link l) (some o.id) 3 s.sched).2 }

/-! ## Carriage (R97) -/

/-- An entry that may be offered: PENDING with sends remaining (R97). -/
def offerable (e : Entry) : Bool := e.outcome.isNone && decide (0 < e.sends)

/-- The entries offered: the first two in queue order (R97). -/
def offered (c : Schedule) : List Entry := (c.queue.filter offerable).take 2

/-- The ORDER built from an entry as it stands; an entry without an order id is local and is never offered (its sends remaining are 0). -/
def orderMessage (e : Entry) : LinkMessage := .order { id := e.orderId.getD 0, due := e.due, action := e.action }

/-- The sends remaining of the offered entries fall by one (R97). -/
def spendOffers (c : Schedule) : Schedule :=
  { c with queue := c.queue.map (fun e => if e.id ∈ (offered c).map Entry.id then { e with sends := e.sends - 1 } else e) }

/-! ## Firing (R99 to R102) -/

/-- What a firing has settled so far: the outcome of each entry taken, and the last LOAD applied and the SWITCH now held, by action id. -/
structure Firing where
  outcomes : List (Nat × Ending)
  lastLoad : Option Nat
  heldBy : Option Nat
  /-- At least one LOAD applied at this sync was not propagated (R17). -/
  localLoad : Bool
  deriving DecidableEq, Repr

/-- The outcome of one entry replaced. -/
def settleAs (id : Nat) (o : Ending) (l : List (Nat × Ending)) : List (Nat × Ending) := l.map (fun x => if x.1 = id then (id, o) else x)

/-- The outcome of the entry that an id names, if any, replaced by SUPERSEDED (R100 a, R101 b). -/
def supersede (id : Option Nat) (l : List (Nat × Ending)) : List (Nat × Ending) :=
  match id with
  | some i => settleAs i .superseded l
  | none => l

/-- DONE when the due exceeds the final value of the record handed over and that record is valid; LATE otherwise (R99). -/
def firstOutcome (latest : SyncRecord) (e : Entry) : Ending := if latest.valid ∧ latest.final.toNat < e.due.toNat then .done else .late

/-- The entries of a firing: every PENDING entry whose due is at or below the sync time, in queue order (R99). -/
def dueEntries (syncTime : Time) (q : List Entry) : List Entry :=
  q.filter (fun e => e.outcome.isNone && decide (e.due.toNat ≤ syncTime.toNat))

/-- One entry of a firing applied (R100, R101, R82). -/
def applyEntry (acc : Firing × State) (e : Entry) : Firing × State :=
  let f := acc.1
  let s := acc.2
  match e.action with
  | .load v =>
    ({ f with outcomes := supersede f.lastLoad f.outcomes, lastLoad := some e.id, localLoad := f.localLoad || e.orderId.isNone },
      setCore { s.core with time := v } s)
  | .switch p =>
    match s.plans.records.get p with
    | none => ({ f with outcomes := settleAs e.id .refused f.outcomes }, s)
    | some _ =>
      ({ f with outcomes := supersede f.heldBy f.outcomes, heldBy := some e.id }, { s with plans := { s.plans with held := some p } })
  | .pulse o w _ => (f, startPulse o w s)

/-- Whether an entry is a repeating PULSE, and its period (R102 b). -/
def repeatPeriod (e : Entry) : Option Nat :=
  match e.action with
  | .pulse _ _ p => if p = 0 then none else some p
  | _ => none

/-- The end of one entry's turn in the queue: a one-shot entry becomes FINISHED in its place; a repeating PULSE takes its new due and the place
it gives (R102). -/
def endTurn (syncTime : Time) (sps : Nat) (outcomes : List (Nat × Ending)) (q : List Entry) (e : Entry) : List Entry :=
  match repeatPeriod e with
  | none => q.map (fun x => if x.id = e.id then { x with outcome := outcomes.lookup e.id, sends := 0 } else x)
  | some p =>
    insertByDue { e with sends := 0, due := syncTime + BitVec.ofNat 64 (p * sps) } (q.filter (fun x => x.id ≠ e.id))

/-- The items of a firing raised, for each entry that became FINISHED, in queue order (R107 a). -/
def reportFiring (outcomes : List (Nat × Ending)) (es : List Entry) (s : State) : State :=
  es.foldl (fun s e =>
    match repeatPeriod e, outcomes.lookup e.id with
    | none, some o => raiseItem e o s
    | _, _ => s) s

/-- What the loads of a firing leave in the core: one TIME notice with the jump when the final value differs from the sync time, and the
outbound-realign flag when a load applied was local (R17). -/
def reportLoads (syncTime : Time) (localLoad : Bool) (s : State) : State :=
  if s.core.time = syncTime then s
  else
    let s := if localLoad then setCore (setRealign s.core) s else s
    raiseTime s.core.state (some (s.core.time - syncTime)) s

/-- Stage e of a sync: the entries due are settled, applied one at a time in queue order, and end their turns; then the loads' jump and the items
are reported (R99 to R102, R107, R17). `sps` is the SPS of the plan active at this stage. DESIGN CHOICE, safe (log entry 28): R102 names no order in which
several entries end their turns; they do so in the queue order they had, so repeating PULSEs with equal new dues keep it. -/
def fire (syncTime : Time) (latest : SyncRecord) (sps : Nat) (s : State) : State :=
  let es := dueEntries syncTime s.sched.queue
  let start : Firing := { outcomes := es.map (fun e => (e.id, firstOutcome latest e)), lastLoad := none, heldBy := none, localLoad := false }
  let out := es.foldl applyEntry (start, s)
  let outcomes := out.1.outcomes
  let s := reportLoads syncTime out.1.localLoad out.2
  let s := { s with sched := { s.sched with queue := es.foldl (endTurn syncTime sps outcomes) s.sched.queue } }
  reportFiring outcomes es s

/-! ## Cancel, flush, release (R104, R106, R109) -/

/-- An entry becomes FINISHED in its place, its sends remaining kept (R98 b, R104). -/
def finishEntry (id : Nat) (o : Ending) (q : List Entry) : List Entry :=
  q.map (fun e => if e.id = id then { e with outcome := some o } else e)

/-- TIME_STOP's flush: every PENDING entry FINISHED with outcome FLUSHED, and an item raised for each, in queue order (R106, R107 c). -/
def flush (s : State) : State :=
  let es := s.sched.queue.filter (fun e => e.outcome.isNone)
  let s := { s with sched := { s.sched with
    queue := s.sched.queue.map (fun e => if e.outcome.isNone then { e with outcome := some .flushed } else e) } }
  es.foldl (fun s e => raiseItem e .flushed s) s

/-- An order id put at the young end of the spent list; the oldest of 17 leaves (R110). -/
def spend (o : Option OrderId) (l : List OrderId) : List OrderId :=
  match o with
  | none => l
  | some o => (l ++ [o]).drop (l.length + 1 - Config.spentOrders)

/-- One entry of an acknowledged ACTIONS notice leaves the queue, and its order id enters the spent list (R109). -/
def releaseItem (q : SeqNo) (c : Schedule) (i : ActionItem) : Schedule :=
  match c.queue.find? (fun e => decide (e.id = i.id) && (e.reportedIn == some q)) with
  | none => c
  | some e => { c with queue := c.queue.filter (fun x => x.id ≠ e.id), spent := spend e.orderId c.spent }

/-- The entries that an acknowledged notice carried are released, in the order they stood in it (R109). -/
def releaseNotice (c : Schedule) (n : SentNotice) : Schedule :=
  match n.notice with
  | .actions items => items.foldl (releaseItem n.seq) c
  | _ => c

end Sys2Proof.Machine
end

