-- ==== Sys2Proof/Machine/Selection.lean ====
section
/-! DEFINITION. Qualifier entries, source selection, link directions and plan changes (Chapters 3, 4 and 5): what happens when a link's fitness or the
active plan changes. -/

namespace Sys2Proof.Machine

/-! ## Selection (R66 to R72) -/

/-- The usable-source test (R66). -/
def usable (p : Plan) (s : State) (l : LinkNo) : Bool :=
  let u := link l s
  let q := readQuality (latestQuality u.rx)
  decide (l ∈ p.cands) && decide (u.dir = .receive)
    && (decide (u.qual.state = .valid) || (decide (u.qual.state = .suspect) && decide (s.sel.source = some l)))
    && decide (q.1 ≤ p.worst) && decide (q.2 < 15)

/-- The outcome of a re-evaluation: a non-revertive plan keeps a current selection that is usable; otherwise the first usable candidate in list
order, or none (R69, R70). -/
def choose (p : Plan) (s : State) : Option LinkNo :=
  let first := p.cands.find? (usable p s)
  if p.revertive then first
  else
    match s.sel.source with
    | some l => if usable p s l then some l else first
    | none => first

/-- A change of selection handed on: the new selection recorded with the joined flag clear, the core told, and its TIME notice raised (R72). -/
def select (p : Plan) (new : Option LinkNo) (s : State) : State :=
  raiseTime s.core.state none { s with sel := { source := new, joined := false }, core := afterSelection p new s.core }

/-- One re-evaluation of the selection; the same selection as before changes nothing (R68, R72). -/
def reevaluate (s : State) : State :=
  match activePlan s with
  | none => s
  | some p => if choose p s = s.sel.source then s else select p (choose p s) s

/-! ## Qualifier states entered (R46, R50, R51, R174) -/

/-- Entry to SEEK (R46). -/
def seekQual (q : Qualifier) : Qualifier :=
  { q with state := .seek, good := 0, bad := 0, phase := none, lastInterval := none, announceSeen := false, loss := none, hold := none }

/-- Entry to OFF (R51). -/
def offQual (q : Qualifier) : Qualifier := { seekQual q with state := .off }

/-- Entry to FAILED, with the link's recovery hold-off as it stands (R50). -/
def failQual (holdoff : Byte) (q : Qualifier) : Qualifier :=
  { q with
    state := .failed, good := 0, phase := none, announceSeen := false, loss := none,
    hold := some (holdoff.toNat * Config.ticksPer10ms) }

/-- The records of both intervals set to none; the message in progress and the discard flag stay (R174). -/
def clearRecords (rx : Receiver) : Receiver := { rx with annCur := none, annLast := none, qualCur := none, qualLast := none }

/-- The qualifier of a link replaced. -/
def setQual (l : LinkNo) (q : Qualifier) (s : State) : State := setLink l { link l s with qual := q } s

/-- The receiver of a link replaced. -/
def setRx (l : LinkNo) (rx : Receiver) (s : State) : State := setLink l { link l s with rx := rx } s

/-- A change of qualifier state made by a mark or an expiry: the state changes, the selection unit re-evaluates, the LINK notice is raised (R53),
and on entry to FAILED or SEEK the receiver's records are cleared afterwards (R174). -/
def changeQual (l : LinkNo) (q : Qualifier) (cause : LinkCause) (s : State) : State :=
  let previous := (link l s).qual.state
  let s := raiseLink l previous cause (reevaluate (setQual l q s))
  if q.state = .failed ∨ q.state = .seek then setRx l (clearRecords (link l s).rx) s else s

/-- Entry to FAILED by a mark or a loss; with a recovery hold-off of 0 the entry to SEEK follows as the next change of the same event (R50). -/
def failLink (l : LinkNo) (q : Qualifier) (cause : LinkCause) (s : State) : State :=
  let s := changeQual l (failQual (link l s).holdoff q) cause s
  if (link l s).holdoff = 0 then changeQual l (seekQual (link l s).qual) .holdoffDone s else s

/-! ## Directions (R24, R51, R46, R52) -/

/-- A link that keeps RECEIVE across a change of plan: at phase 0 its qualifier takes the new SPS at once (R52 a). -/
def keepReceiving (sps : Nat) (u : LinkUnit) : LinkUnit :=
  if u.dir = .receive ∧ u.qual.phase = some 0 then { u with qual := { u.qual with intervalSps := some sps } } else u

/-- The marks waiting up to and including the last sync mark. -/
def untilLastSync : List Mark → List Mark
  | [] => []
  | m :: ms => if untilLastSync ms = [] ∧ m.kind = .plain then [] else m :: untilLastSync ms

/-- A link passed through OFF: the sender stops, the receiver is emptied without a fault count, and the qualifier goes OFF (R24 a to c). The sync at which a
switch is made, and the marks of the steps counted before it, leave a pair that was busy at that sync (R29, log entry 11). DEDUCED, safe for the part's own
count (log entry 27): a mark that the pair is already carrying, at a switch or at TIME_STOP, runs out its 4 ticks. -/
def turnOff (u : LinkUnit) : LinkUnit :=
  { u with dir := .off, rx := Receiver.reset, qual := offQual u.qual, pair := { u.pair with waiting := untilLastSync u.pair.waiting } }

/-- A link that loses RECEIVE reports its qualifier's OFF; any other link raises nothing (R51). -/
def leaveDirection (l : LinkNo) (s : State) : State :=
  let u := link l s
  if u.dir = .receive then raiseLink l u.qual.state .direction (setLink l (turnOff u) s) else setLink l (turnOff u) s

/-- A link that is OFF takes its new direction; one that becomes RECEIVE has its qualifier enter SEEK (R46). -/
def enterDirection (l : LinkNo) (d : Direction) (s : State) : State :=
  let u := link l s
  if d = .receive then raiseLink l u.qual.state .direction (setLink l { u with dir := d, qual := seekQual u.qual } s)
  else setLink l { u with dir := d } s

/-- One link takes the direction that the new active plan gives it, through OFF when it changes (R24). -/
def setDirection (sps : Nat) (l : LinkNo) (d : Direction) (s : State) : State :=
  if (link l s).dir = d then setLink l (keepReceiving sps (link l s)) s
  else enterDirection l d (leaveDirection l s)

/-- Every link takes the direction of the plan, L0 to L5 in order: at TIME_START R151 c gives that order, at a switch R24, R81 and R85 give none, and L0 to L5
is the model's. DESIGN CHOICE, safe (log entry 26). -/
def setDirections (p : Plan) (s : State) : State := allLinks.foldl (fun s l => setDirection p.sps l (p.dirs.get l) s) s

/-- No mark waits for any pair: what the senders had not yet sent is abandoned (R24 a). -/
def dropWaiting (s : State) : State := { s with links := s.links.map (fun u => { u with pair := { u.pair with waiting := [] } }) }

/-- Every link becomes OFF, L0 to L5 in order (R152 d); a mark already on a pair runs out its 4 ticks (log entry 27). -/
def allOff (s : State) : State :=
  dropWaiting (allLinks.foldl (fun s l => if (link l s).dir = .off then s else leaveDirection l s) s)

/-! ## Plan changes (R13, R79 to R88) -/

/-- The core acts on a change of active plan. It raises a TIME notice when its state, grade or hops changed (R13, R86), and when a core that was MASTER before
the switch takes over (R73; DEDUCED, log entry 22). `before` is the core's state before the switch. -/
def corePlanChange (p : Plan) (before : CoreState) (s : State) : State :=
  let c := afterPlanChange p s.sel s.core
  let s' := setCore c s
  if (before = .master ∧ c.takeover) ∨ ¬(c.state = s.core.state ∧ c.grade = s.core.grade ∧ c.hops = s.core.hops) then
    raiseTime s.core.state none s'
  else s'

/-- A switch makes a plan active: directions, one re-evaluation, the core (R81 a to d, R85). -/
def switchTo (t : PlanNo) (p : Plan) (s : State) : State :=
  corePlanChange p s.core.state (reevaluate (setDirections p { s with plans := { s.plans with active := some t } }))

/-- A link serves a plan being judged for failover: RECEIVE now, VALID, grade and hops within that plan's limits (R79 d). -/
def serves (p : Plan) (s : State) (l : LinkNo) : Bool :=
  let u := link l s
  let q := readQuality (latestQuality u.rx)
  decide (u.dir = .receive) && decide (u.qual.state = .valid) && decide (q.1 ≤ p.worst) && decide (q.2 < 15)

/-- A plan of the fallback list is eligible (R79). -/
def eligible (s : State) (t : PlanNo) : Bool :=
  match s.plans.records.get t with
  | none => false
  | some p => decide (s.plans.active ≠ some t) && decide (p.role ≠ .master) && p.cands.any (serves p s)

/-- A failover to the first eligible plan of the fallback list, if there is one (R79 to R81). -/
def failover (s : State) : State :=
  match s.plans.fallback.find? (eligible s) with
  | none => s
  | some t =>
    match s.plans.records.get t with
    | none => s
    | some p =>
      let previous := s.plans.active
      let s := switchTo t p s
      let s := setCore (setRealign s.core) s
      raisePlan previous .failover s.core.syncIndex s

/-- An ordered switch to a held target other than the active plan (R83 b). -/
def orderedSwitch (t : PlanNo) (p : Plan) (s : State) : State :=
  let previous := s.plans.active
  let s := switchTo t p s
  raisePlan previous .ordered s.core.syncIndex s

/-- Failover is considered under a FOLLOWER plan when the core state handed with the sync is HOLDOVER or FREE (R80). -/
def considerFailover (handed : CoreState) (s : State) : State :=
  match activePlan s with
  | none => s
  | some p => if p.role = .follower ∧ (handed = .holdover ∨ handed = .free) then failover s else s

/-- Stage g of a sync: the held target first, then failover unless an ordered switch changed the plan (R80, R83). -/
def failoverController (handed : CoreState) (s : State) : State :=
  let held := s.plans.held
  let s := { s with plans := { s.plans with held := none } }
  match held with
  | none => considerFailover handed s
  | some t =>
    if s.plans.active = some t then considerFailover handed s
    else
      match s.plans.records.get t with
      | none => considerFailover handed s
      | some p => orderedSwitch t p s

end Sys2Proof.Machine
end

