-- ==== Sys2Proof/Machine/Steps.lean ====
section
/-! DEFINITION. Counted steps (Chapter 1, sections 1.3 to 1.5): the interval's message set, plain steps, the work at a sync in its stages, the internal
generator with its catch-up, joins, and the halt line. -/

namespace Sys2Proof.Machine

/-! ## The outgoing message set (R27, R97) -/

/-- The interval's message set as it stands now: one TIME_ANNOUNCE of the latest final value plus the SPS, one QUALITY, and the offered ORDERs
(R27). -/
def composedSet (p : Plan) (idx : PlanNo) (s : State) : List Byte :=
  messageBytes (.announce { time := s.core.record.final + BitVec.ofNat 64 p.sps, plan := idx })
    ++ messageBytes (.quality { grade := s.core.grade, hops := s.core.hops, takeover := s.core.takeover, core := s.core.state })
    ++ (offered s.sched).flatMap (fun e => messageBytes (orderMessage e))

/-- The senders compose the interval's set, and the sends remaining of the entries offered fall (R27, R97). -/
def compose (s : State) : State :=
  match s.plans.active, activePlan s with
  | some idx, some p => { s with outSet := some (composedSet p idx s), sched := spendOffers s.sched }
  | _, _ => s

/-- The set is composed when the first step of an interval is counted, in a counting state with time valid; not at a join out of ACQUIRING
(R27, R97, R173). -/
def composeIfDue (s : State) : State := if s.outSet.isNone ∧ mayEmit s.core then compose s else s

/-- The byte that the mark bringing the steps since sync to `n` carries: byte `n` of the set, none beyond its end (R28). -/
def setByte (n : Nat) (set : Option (List Byte)) : Option Byte := set.bind (fun bs => if n = 0 then none else bs[n - 1]?)

/-! ## A plain step -/

/-- The outputs' widths count a step (R122). -/
def countPulses (s : State) : State := { s with pulses := s.pulses.map stepPulse }

/-- A plain step counted and relayed (R1, R3, R26 b, R28). -/
def countPlain (s : State) : State :=
  let s := composeIfDue s
  let s := countPulses (setCore { countTime s.core with steps := satSucc Config.maxSteps s.core.steps } s)
  emit { kind := .plain, byte := setByte s.core.steps s.outSet } s

/-! ## The work at a sync (R14) -/

/-- Where a sync comes from: the generator, a sync mark of the joined source, or the sync mark at which a selected source is joined. -/
inductive SyncCause where
  | generator
  | mark (l : LinkNo) (realign : Bool)
  | join (l : LinkNo)
  deriving DecidableEq, Repr

/-- The value a link's announce of the interval now ending calls for: the announced value plus the link offset (R15, R33, R38). -/
def expectedTime (l : LinkNo) (s : State) : Option Time :=
  let u := link l s
  u.rx.annCur.map (fun a => a.time + offsetTime u.offset)

/-- The value taken with a jump: the TIME notice carries it, and the outbound-realign flag is set (R15 b, R16). -/
def takeJump (v : Time) (s : State) : State :=
  let jump := v - s.core.time
  raiseTime s.core.state (some jump) (setCore (setRealign { s.core with time := v }) s)

/-- The time check of a sync mark of the joined source that carries no realign (R15). -/
def timeCheck (p : Plan) (expected : Time) (s : State) : State :=
  if s.core.time = expected then s
  else
    match p.policy with
    | .report => raiseFault .timeMismatch s
    | .resync => takeJump expected s

/-- A realign (R16): the announced value is taken whatever the policy; with no announce it stays pending. -/
def realign (expected : Option Time) (s : State) : State :=
  match expected with
  | none => setCore { s.core with realignPending := true } s
  | some v =>
    let s := setCore { s.core with realignPending := false } s
    if s.core.time = v then s else takeJump v s

/-- A join (R11 b, c): the announced value becomes the time value, the core enters LOCKED with time valid, and the source is joined. A join whose
jump is not 0 sets the outbound-realign flag, except out of ACQUIRING. -/
def join (l : LinkNo) (v : Time) (s : State) : State :=
  let flagged := if s.core.state ≠ .acquiring ∧ v ≠ s.core.time then setRealign s.core else s.core
  let c := { flagged with time := v, valid := true, takeover := false, realignPending := false, state := .locked }
  { s with core := lockedGrade (latestQuality (link l s).rx) c, sel := { s.sel with joined := true } }

/-- Stages b and c (R14): the check, resync, realign or join that applies. -/
def correct (p : Plan) (cause : SyncCause) (s : State) : State :=
  match cause with
  | .generator => s
  | .join l =>
    match expectedTime l s with
    | some v => join l v s
    | none => s
  | .mark l flagged =>
    if flagged ∨ s.core.realignPending then realign (expectedTime l s) s
    else
      match expectedTime l s with
      | some v => timeCheck p v s
      | none => s

/-- The holdover limit is reached: a limit other than 0 that the count equals or exceeds, in HOLDOVER, within the work of a sync (R9). -/
def limitReached (p : Plan) (c : Core) : Bool :=
  decide (c.state = .holdover) && c.syncWork.isSome && decide (p.limit ≠ 0) && decide (p.limit ≤ c.holdoverCount)

/-- The holdover budget is spent: the core enters FREE, HOLDOVER_EXPIRED is counted and a TIME notice is raised (R9 a to c). -/
def expireHoldover (p : Plan) (s : State) : State :=
  if limitReached p s.core then
    raiseTime s.core.state none (raiseFault .holdoverExpired (setCore (enterGenerating p .free s.core) s))
  else s

/-- Stage d: the steps since sync become 0, the sync index rises, and in HOLDOVER the holdover sync count rises and may reach the limit
(R14 d, R9). DESIGN CHOICE, unsafe (log entry 34): the count, of 0 to 65535, stops at 65535, which the manual does not say. -/
def boundary (p : Plan) (s : State) : State :=
  let c := { s.core with steps := 0, syncIndex := s.core.syncIndex + 1 }
  if c.state = .holdover then expireHoldover p (setCore { c with holdoverCount := satSucc Config.max16 c.holdoverCount } s)
  else setCore c s

/-- Stage f: the final value is recorded (R2, R14 f), and the interval's set is complete, so the next counted step composes a new one (R27). -/
def recordFinal (s : State) : State :=
  { s with core := { s.core with record := { final := s.core.time, valid := true } }, outSet := none }

/-- The TIME notice of a join (R11 e): no jump out of ACQUIRING, and otherwise the value taken minus the value reached by counting the mark. -/
def reportJoin (cause : SyncCause) (previous : CoreState) (reached syncTime : Time) (s : State) : State :=
  match cause with
  | .join _ => raiseTime previous (if previous = .acquiring then none else some (syncTime - reached)) s
  | .generator | .mark _ _ => s

/-- Stage a: the sync's step counted. From here its work is in progress, and a realign arranged for it is no longer a setting to come (R18). -/
def beginSync (s : State) : State :=
  let n := s.core.syncIndex + 1
  countPulses (setCore { countTime s.core with
    syncWork := some n, outRealign := if s.core.outRealign = some n then none else s.core.outRealign } s)

/-- The kind of the outbound sync mark: with realign when the flag is to be carried by this sync (R18, R26 a). -/
def syncKind (c : Core) : MarkKind := if c.outRealign = some (c.syncIndex + 1) then .syncRealign else .sync

/-- A sync taken: stages a to f, the outbound sync mark once they are complete, and stage g (R14, R29). DESIGN CHOICE, safe (log entry 29): a join's TIME notice
(R11 e) is raised after stage f and the mark and before stage g, so a switch made at the join's sync reports after it. -/
def takeSync (p : Plan) (cause : SyncCause) (s : State) : State :=
  let s := composeIfDue s
  let previous := s.core.state
  let kind := syncKind s.core
  let s := beginSync s
  let reached := s.core.time
  let s := correct p cause s
  let syncTime := s.core.time
  let s := boundary p s
  let latest := s.core.record
  let s := recordFinal (fire syncTime latest p.sps s)
  let s := reportJoin cause previous reached syncTime (emit { kind := kind, byte := none } s)
  let s := failoverController s.core.state s
  setCore { s.core with syncWork := none } s

/-! ## The internal generator (R7) -/

/-- The generator's next step has fallen due. -/
def stepDue (c : Core) : Bool := c.gen.running && decide (c.gen.spacing ≤ c.gen.elapsed)

/-- The generator moves to the step now counted: the cycle position moves on when that step was spaced by a learned interval, and the instant of the
step after it is fixed with the spacing now in force (R7). -/
def advanceGenerator (p : Plan) (c : Core) : Core :=
  let g := c.gen
  fixSpacing p { c with gen := { g with
    elapsed := g.elapsed - g.spacing, cycle := if g.fromRecord then g.cycle + 1 else g.cycle } }

/-- One generator step counted: a sync when the steps since sync reach the SPS of the active plan or more (R3 a). -/
def countGenerated (p : Plan) (s : State) : State :=
  let s := setCore (advanceGenerator p s.core) s
  if p.sps ≤ s.core.steps + 1 then takeSync p .generator s else countPlain s

/-- The generator's next step has an instant before now. -/
def stepPassed (c : Core) : Bool := c.gen.running && decide (c.gen.spacing < c.gen.elapsed)

/-- The core as it stands between two caught-up steps kept, for an edge taken there; the first one of an event takes the place of those that an earlier event of
this instant kept (R115, log entry 31). -/
def keepPassing (s : State) : State :=
  { s with passing := (if s.caughtUp.isSome then [] else s.passing) ++ [s.core], caughtUp := none, kept := s.kept + 1 }

/-- The end of an event that may have caught up, which began at `before`: when it kept a core, the blocks are noted as it leaves them (log entry 31). -/
def endCatchUp (before s : State) : State := if s.kept = before.kept then s else { s with caughtUp := some s.toBlocks }

/-- Every generator step that `due` finds counted, one after another (R7). `between` says that the event has already counted a caught-up step. -/
def countWhile (due : Core → Bool) : Nat → Bool → State → State
  | 0, _, s => s
  | fuel + 1, between, s =>
    match activePlan s with
    | none => s
    | some p => if due s.core then countWhile due fuel true (countGenerated p (if between then keepPassing s else s)) else s

/-- Enough rounds for every step that can have passed: eight learned intervals in turn take at least one tick (log entry 7). -/
def dueFuel (c : Core) : Nat := 8 * (c.gen.elapsed + 1)

/-- The generator counts what has fallen due, the step of this instant included. -/
def runGenerator (between : Bool) (s : State) : State := countWhile stepDue (dueFuel s.core) between s

/-- The generator started within the event that began at `before` (R7). -/
def generatorStarted (before s : State) : Bool := !before.core.gen.running && s.core.gen.running

/-- The catch-up of a generator that started within the event which began at `before` (R7, log entry 7). `between` as in `countWhile`. -/
def catchUp (between : Bool) (before s : State) : State := if generatorStarted before s then runGenerator between s else s

/-- The catch-up that a mark finds due before it reaches the core: its event, which began at `before`, started a generator whose next step has passed. -/
def catchesUpFirst (before s : State) : Bool := generatorStarted before s && stepPassed s.core

/-- The same catch-up carried out: only the steps whose instant has passed, since a mark at the instant itself may be the step (R11 a, log entry 7). -/
def catchUpPassed (before s : State) : State := if catchesUpFirst before s then countWhile stepPassed (dueFuel s.core) false s else s

/-! ## Marks of the selected source (R8, R10, R11) -/

/-- A mark of the joined source counted in LOCKED: a good measured interval enters the learned record, and the mark is a plain step or a sync
(R8, R10). -/
def countMark (p : Plan) (l : LinkNo) (k : MarkKind) (measured : Option (Nat × Bool)) (s : State) : State :=
  let c := match measured with
    | some (interval, true) => learn interval s.core
    | _ => s.core
  let s := setCore { c with gen := { c.gen with elapsed := 0 } } s
  match k with
  | .plain => countPlain s
  | .sync => takeSync p (.mark l false) s
  | .syncRealign => takeSync p (.mark l true) s

/-- The selected source's sync mark at which the join is made: the generator stops, and the mark takes the place of its next step (R11). -/
def joinAt (p : Plan) (l : LinkNo) (s : State) : State :=
  let c := stopGenerator s.core
  takeSync p (.join l) (setCore { c with gen := { c.gen with elapsed := 0 } } s)

/-- The states in which a join may be made (R11). -/
def awaitsJoin (p : Plan) (c : Core) : Bool :=
  match c.state with
  | .acquiring | .holdover | .free => true
  | .master => c.takeover && p.revertive && decide (p.role ≠ .master)
  | .idle | .locked | .halted => false

/-- In ACQUIRING the core follows the selected source's marks for position only (R10). -/
def followPosition (k : MarkKind) (s : State) : State :=
  if s.core.state = .acquiring then
    setCore { s.core with ticks := 0, steps := if k = .plain then satSucc Config.maxSteps s.core.steps else 0 } s
  else s

/-- A mark is the join: a sync mark of the selected source, not joined, that ends an interval with an announce, in a state that awaits one (R11). -/
def makesJoin (p : Plan) (l : LinkNo) (k : MarkKind) (s : State) : Bool :=
  decide (s.sel.source = some l) && !s.sel.joined && awaitsJoin p s.core && decide (k ≠ .plain) && (link l s).rx.annCur.isSome

/-- A mark handed to the time core by the receiver of a link (R10, R11, R25 b). -/
def coreMark (p : Plan) (l : LinkNo) (k : MarkKind) (measured : Option (Nat × Bool)) (s : State) : State :=
  if s.sel.source ≠ some l then s
  else if s.core.state = .locked ∧ s.sel.joined then countMark p l k measured s
  else if makesJoin p l k s then joinAt p l s
  else followPosition k s

/-! ## The halt line (R20, R21) -/

/-- An assertion of HALTN under FREEZE (R20 a, b). DEDUCED, safe for the part's own count (log entry 27): a mark that a pair is already carrying runs out its 4
ticks; the marks waiting stay (log entry 11). -/
def assertHalt (s : State) : State :=
  match s.core.state with
  | .idle | .halted => s
  | _ => raiseTime s.core.state none (forcePulses (setCore (haltedCore s.core) s))

/-- A release out of HALTED (R21). -/
def releaseHalt (s : State) : State :=
  match s.core.state, activePlan s with
  | .halted, some p => raiseTime .halted none (setCore (releasedCore p s.sel (sourceQuality s) s.core) s)
  | _, _ => s

end Sys2Proof.Machine
end

