-- ==== Sys2Proof/Machine/Lines.lean ====
section
/-! DEFINITION. The time core's and the lines' own events: GENERATOR_STEP, HOLDOVER_EXPIRED, PULSE_WIDTH_END, HALTN_ASSERT, HALTN_RELEASE and
EVENT_EDGE. -/

namespace Sys2Proof.Machine

/-- GENERATOR_STEP (R7): the step that has fallen due is counted, with every other step whose instant has passed. -/
def execGeneratorStep (s : State) : Host.Outcome State Fault Refusal :=
  if stepDue s.core then .next (endCatchUp s (transmit (runGenerator false s))) else .next s

/-- HOLDOVER_EXPIRED (R9): the limit reached within the work of a sync (log entry 10). -/
def execHoldoverExpired (s : State) : Host.Outcome State Fault Refusal :=
  match activePlan s with
  | some p => .next (if limitReached p s.core then transmit (expireHoldover p s) else s)
  | none => .next s

/-- PULSE_WIDTH_END (R122): an active output whose remaining width has reached 0 becomes inactive (log entry 10). -/
def execPulseWidthEnd (o : OutputNo) (s : State) : Host.Outcome State Fault Refusal :=
  .next { s with pulses := s.pulses.set o (endWidth (s.pulses.get o)) }

/-- HALTN_ASSERT (R20): HALTN is judged low; a change from high is an assertion, which acts under FREEZE. -/
def execHaltnAssert (s : State) : Host.Outcome State Fault Refusal :=
  if s.halt.level = .low then .next s
  else
    let s := { s with halt := { s.halt with level := .low } }
    .next (if s.halt.policy = .freeze then transmit (assertHalt s) else s)

/-- HALTN_RELEASE (R21): HALTN is judged high; a change from low is a release, which acts on a HALTED core. -/
def execHaltnRelease (s : State) : Host.Outcome State Fault Refusal :=
  if s.halt.level = .high then .next s
  else
    let s := { s with halt := { s.halt with level := .high } }
    .next (if s.halt.policy = .freeze then transmit (releaseHalt s) else s)

/-! ## Event capture (R113 to R118) -/

/-- The level of a line after an edge. -/
def edgeLevel : Edge → Level
  | .rising => .high
  | .falling => .low

/-- Whether an edge choice accepts an edge (R113). -/
def accepts : EdgeChoice → Edge → Bool
  | .none, _ => false
  | .rising, e => decide (e = .rising)
  | .falling, e => decide (e = .falling)
  | .both, _ => true

/-- The record of an edge, from the core as the edge finds it, with a gap field (R114, R116). -/
def captureOf (line : EventLine) (edge : Edge) (gap : Nat) (c : Core) : CaptureRecord :=
  { line := line, edge := edge, time := c.time, ticks := c.ticks, state := c.state, valid := c.valid, gap := gap }

/-- A CAPTURE notice waits unsent (R118 a). -/
def captureWaits (u : NoticeUnit) : Bool := u.unsent.any (fun n => decide (noticeKey n = .capture))

/-- The time value and the ticks of an accepted edge noted, for the edges accepted after it at this tick (R116, log entry 33). -/
def noteEdge (c : Core) (s : State) : State := { s with edgeAt := some (c.time, c.ticks) }

/-- An accepted edge stored with the pending gap, or counted in the gap when the FIFO is full (R116), and the CAPTURE notice of a store into an empty
FIFO or into an unsent notice's reach (R118). `c` is the core as the edge finds it. -/
def acceptEdge (line : EventLine) (edge : Edge) (c : Core) (s : State) : State :=
  let s := noteEdge c s
  if s.capture.fifo.length < Config.captureRecords then
    let fifo := s.capture.fifo ++ [captureOf line edge s.capture.gap c]
    let s' := { s with capture := { s.capture with fifo := fifo, gap := 0 } }
    if s.capture.fifo = [] ∨ captureWaits s.notices then raise (.capture fifo.length) s' else s'
  else { s with capture := { s.capture with gap := satSucc Config.max16 s.capture.gap } }

/-- Steps were caught up at this instant, and but for edges nothing has changed since: an edge may still come between them (R115, log entry 31). -/
def amidCatchUp (s : State) : Bool := decide (s.caughtUp = some s.toBlocks)

/-- The core as an edge finds it that comes before `n` of the caught-up steps; after every step it finds the core as it stands. -/
def coreBefore (n : Nat) (s : State) : Core := (s.passing.drop (s.passing.length - n)).headD s.core

/-- The core at an edge's place: as it stands, or as it stood at a free place among the caught-up steps (R115, log entry 31). -/
def coreAtPlace (s : State) : Core := if amidCatchUp s then coreBefore (Config.edgePlace s.kept) s else s.core

/-- The core as an edge finds it (R114), with the time value and the ticks of an edge accepted before it at this tick (R116). DESIGN CHOICE, unsafe (log entry
33): that holds whatever else was taken between the two edges, and the core state and the time-valid flag are those of the core at the edge's own place. -/
def coreAtEdge (s : State) : Core :=
  match s.edgeAt with
  | some (v, n) => { coreAtPlace s with time := v, ticks := n }
  | none => coreAtPlace s

/-- The end of an edge that began at `before`: one taken amid a catch-up leaves the next edge there too (R115, log entry 31). -/
def endEdge (before s : State) : State := if amidCatchUp before then { s with caughtUp := some s.toBlocks } else s

/-- EVENT_EDGE (R113, R114): the line is judged at the edge's level; it is an edge when the level judged before differs, and it is kept when the line's
edge choice accepts it. -/
def execEventEdge (line : EventLine) (edge : Edge) (s : State) : Host.Outcome State Fault Refusal :=
  if s.capture.levels.get line = edgeLevel edge then .next s
  else
    let c := coreAtEdge s
    let judged := { s with capture := { s.capture with levels := s.capture.levels.set line (edgeLevel edge) } }
    .next (endEdge s (if accepts (s.capture.edges.get line) edge then transmit (acceptEdge line edge c judged) else judged))

end Sys2Proof.Machine
end

