-- ==== Sys2Proof/Machine/Links.lean ====
section
/-! DEFINITION. The link commands: a mark's arrival (LINK_MARK), the qualifiers' timers (LOSS_TIMER_EXPIRY, HOLDOFF_TIMER_EXPIRY) and the marks that
leave a pair late (CAUGHT_UP_MARK_LEAVES). -/

namespace Sys2Proof.Machine

/-! ## Judging a mark (R42 to R48) -/

/-- A sync mark of either kind (Table 2-2). -/
def isSync (k : MarkKind) : Bool := decide (k ≠ .plain)

/-- A good step: the interval differs from the nominal by no more than the tolerance (R42). -/
def goodStep (p : Plan) (interval : Nat) : Bool := decide (interval ≤ p.nominal + p.tolerance) && decide (p.nominal ≤ interval + p.tolerance)

/-- The sync phase after a mark has raised it, before the judgement; unknown stays unknown (R43). -/
def raisedPhase (q : Qualifier) : Option Nat := q.phase.map (satSucc Config.max16)

/-- A sync fault (R44): with the phase known, a sync mark at another phase than the interval SPS, a plain mark at it, or a sync mark with no announce
seen. -/
def syncFault (k : MarkKind) (q : Qualifier) : Bool :=
  match raisedPhase q with
  | none => false
  | some ph =>
    if isSync k then decide (q.intervalSps ≠ some ph) || !q.announceSeen else decide (q.intervalSps = some ph)

/-- The verdict on a measured mark (R45). -/
inductive Verdict where
  | good
  | bad (cause : LinkCause)
  deriving DecidableEq, Repr

/-- R45: bad step before sync fault before good. -/
def verdict (good fault : Bool) : Verdict := if !good then .bad .badStep else if fault then .bad .syncFault else .good

/-- The loss timer started with the active plan's nominal interval (R49). -/
def lossTicks (p : Plan) : Nat := 4 * p.nominal

/-- A measured mark taken into the qualifier: interval, phase, interval SPS, announce-seen flag, statistics and loss timer (R42, R43, R44, R49,
R55). -/
def measure (p : Plan) (k : MarkKind) (q : Qualifier) : Qualifier :=
  { q with
    lastInterval := some q.sinceMark
    sinceMark := 0
    phase := if isSync k then some 0 else raisedPhase q
    intervalSps := if isSync k then some p.sps else q.intervalSps
    announceSeen := if isSync k then false else q.announceSeen
    loss := some (lossTicks p)
    badSteps := if goodStep p q.sinceMark then q.badSteps else satSucc Config.max16 q.badSteps
    syncFaults := if syncFault k q then satSucc Config.max16 q.syncFaults else q.syncFaults }

/-- The first mark in SEEK starts measurement and may set the phase (R43, R46). -/
def leaveSeek (p : Plan) (k : MarkKind) (q : Qualifier) : Qualifier :=
  { q with
    state := .qualifying, good := 0, sinceMark := 0, loss := some (lossTicks p)
    phase := if isSync k then some 0 else q.phase
    intervalSps := if isSync k then some p.sps else q.intervalSps
    announceSeen := if isSync k then false else q.announceSeen }

/-- A good mark's count in QUALIFYING or SUSPECT (R47 a, R48 c). -/
def countGood (q : Qualifier) : Qualifier := { q with good := satSucc 255 q.good }

/-- A good verdict acted on, on the measured qualifier (R47 a, R48 a, c). -/
def onGood (p : Plan) (l : LinkNo) (q : Qualifier) (s : State) : State :=
  let g := countGood q
  match q.state with
  | .qualifying =>
    if p.validity ≤ g.good ∧ g.phase.isSome then changeQual l { g with state := .valid, bad := 0 } .goodCount s else setQual l g s
  | .suspect =>
    if p.validity ≤ g.good then changeQual l { g with state := .valid, bad := 0 } .goodCount s else setQual l g s
  | .off | .seek | .valid | .failed => setQual l q s

/-- A bad verdict acted on, on the measured qualifier (R47 b, R48 b, d). -/
def onBad (p : Plan) (l : LinkNo) (cause : LinkCause) (q : Qualifier) (s : State) : State :=
  match q.state with
  | .valid => changeQual l { q with state := .suspect, bad := 1, good := 0 } cause s
  | .suspect =>
    let b : Qualifier := { q with bad := q.bad + 1, good := 0 }
    if p.grace < b.bad then failLink l b cause s else setQual l b s
  | .qualifying => setQual l { q with good := 0 } s
  | .off | .seek | .failed => setQual l q s

/-- The qualifier's whole work on a mark, its change told and reported (R53 a to e). -/
def qualifyMark (p : Plan) (l : LinkNo) (k : MarkKind) (s : State) : State :=
  let q := (link l s).qual
  match q.state with
  | .off | .failed => s
  | .seek => changeQual l (leaveSeek p k q) .goodCount s
  | .qualifying | .valid | .suspect =>
    match verdict (goodStep p q.sinceMark) (syncFault k q) with
    | .good => onGood p l (measure p k q) s
    | .bad cause => onBad p l cause (measure p k q) s

/-- The interval and its judgement that the qualifier hands to the time core; none for a mark that is not measured (R8, R53). -/
def handedMeasure (p : Plan) (q : Qualifier) : Option (Nat × Bool) :=
  match q.state with
  | .qualifying | .valid | .suspect => some (q.sinceMark, goodStep p q.sinceMark)
  | .off | .seek | .failed => none

/-! ## Receiving (R30 to R34, R37) -/

/-- The joined source's latest QUALITY changed: the core takes its grade and hops from it, unless it is HALTED, and a change raises a TIME notice
(R19, R34, R6 d). -/
def coreQuality (l : LinkNo) (s : State) : State :=
  if s.core.state = .locked ∧ s.sel.joined ∧ s.sel.source = some l then
    let c := lockedGrade (latestQuality (link l s).rx) s.core
    let s' := setCore c s
    if c.grade = s.core.grade ∧ c.hops = s.core.hops then s' else raiseTime .locked none s'
  else s

/-- A change of a link's latest QUALITY told to the selection unit, and after its re-evaluation to the core (R34, R68 b). -/
def qualityChanged (l : LinkNo) (s : State) : State := coreQuality l (reevaluate s)

/-- A change that R34 tells of: of grade or hops, or between none and some. -/
def qualityDiffers (a b : Option Quality) : Bool :=
  decide (a.map (fun q => (q.grade, q.hops)) ≠ b.map (fun q => (q.grade, q.hops)))

/-- The receiver of a link replaced, and the change of its latest QUALITY told, if it is one (R34). -/
def updateRx (l : LinkNo) (rx : Receiver) (s : State) : State :=
  let changed := qualityDiffers (latestQuality (link l s).rx) (latestQuality rx)
  let s := setRx l rx s
  if changed then qualityChanged l s else s

/-- An accepted message takes effect (R31 a to c). -/
def acceptMessage (l : LinkNo) (m : LinkMessage) (s : State) : State :=
  let u := link l s
  match m with
  | .announce a =>
    setLink l { u with rx := { u.rx with annCur := some a }
                       qual := { u.qual with announceSeen := u.qual.announceSeen || decide (u.qual.state ≠ .off) } } s
  | .quality q => updateRx l { u.rx with qualCur := some q } s
  | .order o => if s.sel.source = some l then receiveOrder l o s else s

/-- A message that has reached its length: accepted, or discarded with one LINK_MESSAGE counted (R31). -/
def checkMessage (l : LinkNo) (bytes : List Byte) (s : State) : State :=
  match messageOf bytes with
  | some m => acceptMessage l m s
  | none => raiseFault .linkMessage s

/-- One byte of a plain mark taken into message assembly (R30). -/
def assemble (l : LinkNo) (b : Byte) (s : State) : State :=
  let rx := (link l s).rx
  match rx.msg with
  | [] =>
    if rx.discard then s
    else if (messageLength b).isSome then setRx l { rx with msg := [b] } s
    else raiseFault .linkMessage (setRx l { rx with discard := true } s)
  | type :: bytes =>
    let msg := type :: bytes ++ [b]
    if messageLength type = some msg.length then checkMessage l msg (setRx l { rx with msg := [] } s)
    else setRx l { rx with msg := msg } s

/-- A sync mark's closing of the interval, before it is handed on: an incomplete message is discarded and counted, and so is a byte on the mark
(R32 a, b). -/
def closeInterval (l : LinkNo) (b : Option Byte) (s : State) : State :=
  let rx := (link l s).rx
  let s := if rx.msg = [] then s else raiseFault .linkMessage (setRx l { rx with msg := [] } s)
  if b.isSome then raiseFault .linkMessage s else s

/-- The records of the interval roll over, and the discard flag is cleared (R32 d). -/
def rollOver (l : LinkNo) (s : State) : State :=
  let rx := (link l s).rx
  updateRx l { rx with annLast := rx.annCur, annCur := none, qualLast := rx.qualCur, qualCur := none, discard := false } s

/-- After the core's work on a mark: a plain mark's byte is assembled, or the interval's records roll over, on a link that still listens
(R25 c, d). -/
def finishMark (l : LinkNo) (k : MarkKind) (b : Option Byte) (s : State) : State :=
  if (link l s).dir ≠ .receive then s
  else
    match k, b with
    | .plain, some byte => assemble l byte s
    | .plain, none => s
    | _, _ => rollOver l s

/-- A mark that arrives on a RECEIVE link (R25, R32, R53): its interval is closed, its qualifier does its whole work, a generator started by that
catches up, the core counts or follows it, and its byte or its sync is taken by the receiver. Between caught-up steps and a join at the mark an edge may
come (R115). -/
def receiveMark (p : Plan) (l : LinkNo) (k : MarkKind) (b : Option Byte) (s : State) : State :=
  let measured := handedMeasure p (link l s).qual
  let s1 := if isSync k then closeInterval l b s else s
  let q := qualifyMark p l k s1
  let behind := catchesUpFirst s1 q
  let s2 := catchUpPassed s1 q
  let s3 := match activePlan s2 with
    | some p2 => coreMark p2 l k measured (if behind ∧ makesJoin p2 l k s2 then keepPassing s2 else s2)
    | none => s2
  catchUp behind s1 (finishMark l k b s3)

/-- LINK_MARK (R25). A mark on a pair that is SEND or OFF is not decoded and reaches no block (R23). -/
def execLinkMark (l : LinkNo) (k : MarkKind) (b : Option Byte) (s : State) : Host.Outcome State Fault Refusal :=
  match activePlan s with
  | some p => if (link l s).dir = .receive then .next (endCatchUp s (transmit (receiveMark p l k b s))) else .next s
  | none => .next s

/-! ## The qualifiers' timers (R49, R50) -/

/-- The loss timer's expiry acted on by state (R49 a, b). -/
def expireLoss (l : LinkNo) (s : State) : State :=
  let q := (link l s).qual
  match q.state with
  | .qualifying => changeQual l (seekQual q) .loss s
  | .valid | .suspect => failLink l { q with losses := satSucc Config.max16 q.losses } .loss s
  | .off | .seek | .failed => s

/-- LOSS_TIMER_EXPIRY (R49): taken when the link's loss timer has run out; a generator that it starts catches up (R7). -/
def execLossTimerExpiry (l : LinkNo) (s : State) : Host.Outcome State Fault Refusal :=
  if (link l s).qual.loss = some 0 then .next (endCatchUp s (transmit (catchUp false s (expireLoss l s)))) else .next s

/-- HOLDOFF_TIMER_EXPIRY (R50): taken when the hold-off timer of a FAILED qualifier has run out. -/
def execHoldoffTimerExpiry (l : LinkNo) (s : State) : Host.Outcome State Fault Refusal :=
  let q := (link l s).qual
  if q.state = .failed ∧ q.hold = some 0 then .next (endCatchUp s (transmit (catchUp false s (changeQual l (seekQual q) .holdoffDone s)))) else .next s

/-! ## Caught-up marks (R26) -/

/-- A pair that has finished carrying one mark takes the next one waiting. -/
def pairNext (p : Pair) : Pair :=
  match p.waiting with
  | [] => p
  | m :: ms => { mark := some m, busy := Config.markTicks, waiting := ms }

/-- A caught-up mark may leave: the core may emit, and the pair is free with a mark waiting (R26). A mark waits for a pair whose link is SEND, or was when its step
was counted (R29, log entry 11). -/
def markMayLeave (l : LinkNo) (s : State) : Bool :=
  let u := link l s
  mayEmit s.core && decide (u.pair.busy = 0) && decide (u.pair.waiting ≠ [])

/-- CAUGHT_UP_MARK_LEAVES (R26). -/
def execCaughtUpMarkLeaves (l : LinkNo) (s : State) : Host.Outcome State Fault Refusal :=
  if markMayLeave l s then .next (setLink l { link l s with pair := pairNext (link l s).pair } s) else .next s

end Sys2Proof.Machine
end

