-- ==== Sys2Proof/Machine/Channel.lean ====
section
/-! DEFINITION. The control channel and the notice unit's timer: CHANNEL_BYTE, FRAME_TIMER_EXPIRY, TRANSMIT_DONE, ACK_TIMER_EXPIRY, the two resets
POWER_ON_RESET and RESTART_TAKES_EFFECT, and the report of a valid request frame. -/

namespace Sys2Proof.Machine

/-! ## Liveness (R169) -/

/-- A valid request frame reported to the notice unit: the retry count becomes 0, and a QUIET channel returns to LIVE with a resend round of the whole
window (R169). -/
def reportValid (u : NoticeUnit) : NoticeUnit :=
  match u.liveness with
  | .live => { u with retry := 0 }
  | .quiet => { u with retry := 0, liveness := .live, resend := u.window.map SentNotice.seq }

/-! ## The request's arrival (R133) -/

/-- A restart is pending: the handler has answered RESTART and takes no further request (R138). -/
def restartPending (c : Channel) : Bool := c.handling.isSome

/-- A request for which no slot is claimed (R133 a). -/
def overrun (c : Channel) : Bool :=
  decide (Config.responseSlots ≤ c.responses.length) || (restartPending c && decide (Config.requestSlots ≤ c.requests.length))

/-- A request with its slot: it joins the queue, or finds it full and has its slot filled with BUSY (R133 b). -/
def claimSlot (r : Request) (c : Channel) : Channel :=
  if c.requests.length < Config.requestSlots then
    { c with requests := c.requests ++ [r], responses := c.responses ++ [.reserved] }
  else
    { c with responses := c.responses ++ [.filled { tag := r.tag, kind := responseKind r.kind, status := .busy, fields := [] }] }

/-- A frame that passes R132: reported, then discarded for overrun or admitted (R133). -/
def arrive (r : Request) (s : State) : State :=
  let s := { s with notices := reportValid s.notices }
  if overrun s.channel then raiseFault .channelOverrun s else { s with channel := claimSlot r s.channel }

/-! ## The frame receiver (R129 to R132) -/

/-- The request that a whole frame holds (Table 12-2). -/
def requestOf (f : List Byte) : Request :=
  { tag := f.getD 2 0, kind := f.getD 3 0, payload := (f.drop 4).take (byteAt f 1 - 2) }

/-- The CRC-16 of a whole frame matches its last two bytes, low byte first (R132). -/
def frameCrcOk (f : List Byte) : Bool := (crc16 (f.drop 1).dropLast.dropLast).toNat == numAt f (f.length - 2) 2

/-- The receiver hunting through bytes in order: a byte other than START is dropped, a START begins a frame, a LEN out of range or a failing CRC is
counted and the hunt goes on at the byte after that START, a frame that passes is handed on, and a frame the bytes only begin is held
(R129 to R132). Each round takes at least one byte, so the number of bytes is fuel enough. -/
def hunt : Nat → List Byte → State → State
  | 0, _, s => { s with channel := { s.channel with held := [] } }
  | _ + 1, [], s => { s with channel := { s.channel with held := [] } }
  | fuel + 1, b :: bs, s =>
    if b ≠ 0x5B then hunt fuel bs s
    else
      match bs with
      | [] => { s with channel := { s.channel with held := [b] } }
      | len :: _ =>
        if len.toNat < 2 ∨ 242 < len.toNat then hunt fuel bs (raiseFault .channelFraming s)
        else if (b :: bs).length < len.toNat + 4 then { s with channel := { s.channel with held := b :: bs } }
        else
          let f := (b :: bs).take (len.toNat + 4)
          if frameCrcOk f then hunt fuel ((b :: bs).drop (len.toNat + 4)) (arrive (requestOf f) s)
          else hunt fuel bs (raiseFault .channelCrc s)

/-- The frame timer after bytes were taken or examined again: it runs its 20 ms while a frame is held, and is stopped in HUNT (R130). -/
def setFrameTimer (s : State) : State :=
  { s with channel := { s.channel with frameTimer := if s.channel.held = [] then none else some Config.frameTimerTicks } }

/-- Bytes taken by the receiver, from HUNT or from the START of the frame in progress. -/
def takeBytes (bs : List Byte) (s : State) : State := setFrameTimer (hunt (bs.length + 1) bs s)

/-- CHANNEL_BYTE (R129): the byte joins the held bytes, or is hunted by itself when none are held. DEDUCED, safe (log entry 30): the transmitter chooses at the
end of the event (R137), so when the byte ends QUIET on an idle line the first resend begins before the request is answered. -/
def execChannelByte (b : Byte) (s : State) : Host.Outcome State Fault Refusal :=
  .next (transmit (takeBytes (s.channel.held ++ [b]) s))

/-- FRAME_TIMER_EXPIRY (R130): the frame in progress is abandoned, CHANNEL_FRAMING counted, and the held bytes after its START examined again. -/
def execFrameTimerExpiry (s : State) : Host.Outcome State Fault Refusal :=
  if s.channel.frameTimer = some 0 then .next (transmit (takeBytes s.channel.held.tail (raiseFault .channelFraming s))) else .next s

/-! ## Resets (R22, R40, R56, R75, R89, R112, R125, R138, R139, R143, R171) -/

/-- The link after RESTART: everything at its reset value but the link offset and the recovery hold-off (Tables 2-5 and 3-6). -/
def restartedLink (u : LinkUnit) : LinkUnit := { LinkUnit.reset with offset := u.offset, holdoff := u.holdoff }

/-- RESTART taking effect in every block (R143): kept are the plan records, the fallback list, the link settings, the edge choices, judged levels and
polarities, the halt policy, the notice settings and the line rate; READY with cause RESTART is raised (R165). -/
def restarted (s : State) : State :=
  { s with
    core := Core.reset
    passing := []
    caughtUp := none
    edgeAt := none
    links := s.links.map restartedLink
    outSet := none
    plans := { s.plans with active := none, held := none }
    sel := { source := none, joined := false }
    sched := Schedule.reset
    capture := { s.capture with fifo := [], gap := 0 }
    pulses := s.pulses.map idlePulse
    channel := Channel.reset s.channel.rate
    notices := raised (.ready .restart) { NoticeUnit.reset with unsent := [], timeout := s.notices.timeout, mask := s.notices.mask } }

/-- POWER_ON_RESET (R139): every block at its power-on values, the line rate from the straps, the judged levels those of the first judgement, and
READY with cause POWER raised. The queue of waiting commands is not the part's and stays. -/
def execPowerOnReset (baud1 baud0 haltn : Level) (ev : Per4 Level) (s : State) : Host.Outcome State Fault Refusal :=
  .next { State.powerOn (rateOf baud1 baud0) haltn ev with pending := s.pending, choices := s.choices, kept := s.kept }

/-- The response that a frame being sent carries is RESTART's OK (R138). -/
def isRestartOk (f : Outgoing) : Bool :=
  match f with
  | .response r => decide (r.kind = 0x82) && decide (r.status = .ok)
  | .notice _ => false

/-- The last byte of the RESTART response is leaving while its restart is pending (R138). -/
def restartDue (s : State) : Bool :=
  match s.channel.sending with
  | some t => decide (t.left = 0) && restartPending s.channel && isRestartOk t.frame
  | none => false

/-- RESTART_TAKES_EFFECT (R138, R143). -/
def execRestartTakesEffect (s : State) : Host.Outcome State Fault Refusal :=
  .next (if restartDue s then restarted s else s)

/-! ## The transmitter and the acknowledgement timer (R136, R137, R168) -/

/-- The line freed at the end of a frame; a response's slot, the oldest, is freed with it (R136, R137). -/
def freeLine (f : Outgoing) (c : Channel) : Channel :=
  match f with
  | .response _ => { c with sending := none, responses := c.responses.tail }
  | .notice _ => { c with sending := none }

/-- TRANSMIT_DONE (R137): the last byte of the frame being sent has left; the RESTART response's end makes the restart take effect (R138), and any
other's lets the transmitter choose the next frame. -/
def execTransmitDone (s : State) : Host.Outcome State Fault Refusal :=
  match s.channel.sending with
  | none => .next s
  | some t =>
    if t.left ≠ 0 then .next s
    else if restartDue s then .next (restarted s)
    else .next (transmit { s with channel := freeLine t.frame s.channel })

/-- The acknowledgement timer's expiry (R168): the retry count rises; below 3 a resend round of the whole window begins, and at 3 the channel becomes
QUIET. The timer stands stopped until the first resend begins. -/
def expireAck (u : NoticeUnit) : NoticeUnit :=
  if u.retry + 1 < 3 then { u with retry := u.retry + 1, resend := u.window.map SentNotice.seq, timer := none }
  else { u with retry := 3, liveness := .quiet, resend := [], timer := none }

/-- ACK_TIMER_EXPIRY (R168). -/
def execAckTimerExpiry (s : State) : Host.Outcome State Fault Refusal :=
  if s.notices.timer = some 0 then .next (transmit { s with notices := expireAck s.notices }) else .next s

end Sys2Proof.Machine
end

