-- ==== Sys2Proof/Machine/Requests.lean ====
section
/-! DEFINITION. The request handler's kinds (Chapter 9): for each, the payload lengths it allows, its checks in their order, its effect and the fields of
its response. -/

namespace Sys2Proof.Machine

/-! ## Kinds (Table 12-3) -/

/-- The command that takes a request of a kind; UNDEFINED_REQUEST for a kind the part does not define (R128, R176). -/
def requestCommand (kind : Byte) : Instr :=
  match kind.toNat with
  | 0x01 => .ping
  | 0x02 => .restart
  | 0x03 => .planWrite
  | 0x04 => .planRead
  | 0x05 => .planClear
  | 0x06 => .fallbackSet
  | 0x07 => .fallbackRead
  | 0x08 => .linkSet
  | 0x09 => .linkRead
  | 0x0A => .noticeSet
  | 0x0B => .timeStart
  | 0x0C => .timeStop
  | 0x0D => .timeRead
  | 0x0E => .actionAdd
  | 0x0F => .actionCancel
  | 0x10 => .actionList
  | 0x11 => .lineSet
  | 0x12 => .captureRead
  | 0x13 => .haltSet
  | 0x14 => .noticeAck
  | _ => .undefinedRequest

/-- The handler takes the oldest request when it is of the kind that command `c` stands for. -/
def take (c : Instr) (carryOut : Request → State → Answer × State) (s : State) : Host.Outcome State Fault Refusal :=
  .next (handle (fun k => requestCommand k == c) carryOut s)

/-- An OK answer with fields, and the state the request leaves. -/
def ok (fields : List Byte) (s : State) : Answer × State := (⟨.ok, fields⟩, s)

/-- A refusal, with no effect on the part. -/
def no (st : Status) (s : State) : Answer × State := (refuse st, s)

/-! ## Undefined kinds, PING, RESTART (R135, R142, R143) -/

/-- UNDEFINED_REQUEST (R135 a). -/
def execUndefinedRequest (s : State) : Host.Outcome State Fault Refusal := take .undefinedRequest (fun _ s => no .unknownKind s) s

/-- The fields of PING's response (R142, Table 12-8). -/
def pingFields : List Byte :=
  u16 Config.partCode ++ u8 Config.revision ++ u8 Config.links ++ u8 Config.plans ++ u8 Config.scheduleSlots ++ u8 Config.captureRecords

/-- PING (R142). -/
def execPing (s : State) : Host.Outcome State Fault Refusal := take .ping (withLength [0] (fun _ s => ok pingFields s)) s

/-- The handler keeps RESTART, so that a restart is pending and no further request is taken (R138, R143). -/
def holdRestart (r : Request) (s : State) : State := { s with channel := { s.channel with handling := some r } }

/-- RESTART (R143): answered OK, and pending until the last byte of that response has been sent. -/
def execRestart (s : State) : Host.Outcome State Fault Refusal :=
  take .restart (fun r => withLength [0] (fun _ s => ok [] (holdRestart r s)) r) s

/-! ## Plans and the fallback list (R58, R59, R77, R78, R144 to R147) -/

/-- The plan records with one replaced. -/
def setRecord (i : PlanNo) (r : Option Plan) (s : State) : State := { s with plans := { s.plans with records := s.plans.records.set i r } }

/-- PLAN_WRITE's checks and effect (R58, R144). -/
def planWrite (p : List Byte) (s : State) : Answer × State :=
  match planOf (byteAt p 0) with
  | none => no .badValue s
  | some i =>
    if s.plans.active = some i then no .planActive s
    else
      match planOfBytes (p.drop 1) with
      | .error field => (⟨.planInvalid, u8 field⟩, s)
      | .ok r => ok [] (setRecord i (some r) s)

/-- PLAN_WRITE (R144). -/
def execPlanWrite (s : State) : Host.Outcome State Fault Refusal := take .planWrite (withLength [24] planWrite) s

/-- PLAN_READ's checks and response (R59, R145). -/
def planRead (p : List Byte) (s : State) : Answer × State :=
  match planOf (byteAt p 0) with
  | none => no .badValue s
  | some i =>
    match s.plans.records.get i with
    | none => no .planEmpty s
    | some r => ok (u8 i.val ++ u8 (codeFlag (s.plans.active == some i)) ++ planBytes r) s

/-- PLAN_READ (R145). -/
def execPlanRead (s : State) : Host.Outcome State Fault Refusal := take .planRead (withLength [1] planRead) s

/-- PLAN_CLEAR's checks and effect: the plan becomes EMPTY and leaves the fallback list (R59, R78, R146). -/
def planClear (p : List Byte) (s : State) : Answer × State :=
  match planOf (byteAt p 0) with
  | none => no .badValue s
  | some i =>
    if s.plans.active = some i then no .planActive s
    else
      ok [] { s with plans := { s.plans with records := s.plans.records.set i none, fallback := s.plans.fallback.filter (fun j => j ≠ i) } }

/-- PLAN_CLEAR (R146). -/
def execPlanClear (s : State) : Host.Outcome State Fault Refusal := take .planClear (withLength [1] planClear) s

/-- The plan indices that bytes name, in order; none when one is above 3 (R77 a). -/
def plansOf : List Byte → Option (List PlanNo)
  | [] => some []
  | b :: bs =>
    match planOf b.toNat, plansOf bs with
    | some p, some ps => some (p :: ps)
    | _, _ => none

/-- The fallback list as a response carries it: its count and its indices in order (R147). -/
def fallbackFields (l : List PlanNo) : List Byte := u8 l.length ++ l.map (fun p => BitVec.ofNat 8 p.val)

/-- FALLBACK_SET's checks and effect (R77, R147). -/
def fallbackSet (p : List Byte) (s : State) : Answer × State :=
  match plansOf p with
  | none => no .badValue s
  | some ps =>
    if ¬ps.Nodup then no .badValue s
    else if ∃ i ∈ ps, s.plans.active = some i then no .badValue s
    else ok (fallbackFields ps) { s with plans := { s.plans with fallback := ps } }

/-- FALLBACK_SET (R147). -/
def execFallbackSet (s : State) : Host.Outcome State Fault Refusal := take .fallbackSet (withLength [0, 1, 2, 3] fallbackSet) s

/-- FALLBACK_READ (R77, R147). -/
def execFallbackRead (s : State) : Host.Outcome State Fault Refusal :=
  take .fallbackRead (withLength [0] (fun _ s => ok (fallbackFields s.plans.fallback) s)) s

/-! ## Links (R148, R149) -/

/-- LINK_SET's check and effect (R38, R39, R148). -/
def linkSet (p : List Byte) (s : State) : Answer × State :=
  match linkOf (byteAt p 0) with
  | none => no .badValue s
  | some l =>
    let offset := p.getD 1 0
    let holdoff := p.getD 2 0
    ok (u8 l.val ++ [offset, holdoff]) (setLink l { link l s with offset := offset, holdoff := holdoff } s)

/-- LINK_SET (R148). -/
def execLinkSet (s : State) : Host.Outcome State Fault Refusal := take .linkSet (withLength [3] linkSet) s

/-- An optional u16 field behind its presence byte (R175). -/
def optU16 (v : Option Nat) : List Byte := u8 (codeFlag v.isSome) ++ u16 (v.getD 0)

/-- An announce behind its presence byte, the value as received (R149, R175). -/
def announceFields : Option Announce → List Byte
  | some a => u8 1 ++ u64 a.time ++ u8 a.plan.val
  | none => List.replicate 10 0

/-- A QUALITY behind its presence byte, all four fields (R149, R175). -/
def qualityFields : Option Quality → List Byte
  | some q => u8 1 ++ u8 q.grade ++ u8 q.hops ++ u8 (codeFlag q.takeover) ++ u8 (codeCoreState q.core)
  | none => List.replicate 5 0

/-- The fields of LINK_READ's response (Table 9-2, Table 12-8). -/
def linkFields (l : LinkNo) (u : LinkUnit) : List Byte :=
  u8 l.val ++ u8 (codeDirection u.dir) ++ u8 (codeQualState u.qual.state) ++ u8 u.qual.good ++ u8 u.qual.bad ++ optU16 u.qual.phase
    ++ optU16 u.qual.lastInterval ++ announceFields (latestAnnounce u.rx) ++ qualityFields (latestQuality u.rx) ++ u16 u.qual.badSteps
    ++ u16 u.qual.syncFaults ++ u16 u.qual.losses ++ [u.offset, u.holdoff]

/-- LINK_READ's check and response (R149). -/
def linkRead (p : List Byte) (s : State) : Answer × State :=
  match linkOf (byteAt p 0) with
  | none => no .badValue s
  | some l => ok (linkFields l (link l s)) s

/-- LINK_READ (R149). -/
def execLinkRead (s : State) : Host.Outcome State Fault Refusal := take .linkRead (withLength [1] linkRead) s

/-! ## Starting, stopping and reading the time core (R150 to R153) -/

/-- The core as TIME_START leaves it (R5, Table 1-3), under a plan and with a start value or none. -/
def startedCore (p : Plan) (start : Option Time) (c : Core) : Core :=
  let c := { c with
    syncIndex := 0, steps := 0, ticks := 0, holdoverCount := 0, realignPending := false, outRealign := none, remembered := none,
    gen := { c.gen with elapsed := 0 } }
  match start with
  | none => ownGrade { c with state := .acquiring, takeover := false, valid := false, record := { c.record with valid := false } }
  | some v =>
    let c := { c with time := v, valid := true, record := { final := v, valid := true } }
    match p.role with
    | .master => enterGenerating p .master { c with takeover := false }
    | .backup => enterGenerating p .master { c with takeover := true }
    | .follower => enterGenerating p .free { c with takeover := false }

/-- A TIME_START that passes its checks, carried out whole: plan, core, links, selection, PLAN notice, and the first interval's set when a start value
is given (R151, R27). -/
def startTime (i : PlanNo) (p : Plan) (start : Option Time) (s : State) : State :=
  let s := { s with plans := { s.plans with active := some i } }
  let s := raiseTime .idle none (setCore (startedCore p start s.core) s)
  let s := reevaluate (setDirections p s)
  let s := raisePlan none .start 0 s
  if start.isSome then compose s else s

/-- TIME_START's checks (R150) and effect (R151). -/
def timeStart (b : List Byte) (s : State) : Answer × State :=
  let start := if b.length = 9 then some (timeAt b 1) else none
  if s.core.state ≠ .idle then no .wrongState s
  else if s.halt.policy = .freeze ∧ s.halt.level = .low then no .wrongState s
  else
    match planOf (byteAt b 0) with
    | none => no .badValue s
    | some i =>
      match s.plans.records.get i with
      | none => no .planEmpty s
      | some p =>
        if p.role = .master ∧ start = none then no .badValue s
        else
          let s := startTime i p start s
          ok (u8 (codeCoreState s.core.state) ++ u8 (codeFlag s.core.valid)) s

/-- TIME_START (R150, R151). -/
def execTimeStart (s : State) : Host.Outcome State Fault Refusal := take .timeStart (withLength [1, 9] timeStart) s

/-- TIME_STOP outside IDLE, carried out whole: flush, outputs, core, plan with links and selection, PLAN notice (R152). -/
def stopTime (s : State) : State :=
  let s := forcePulses (flush s)
  let previous := s.core.state
  let s := raiseTime previous none (setCore (stoppedCore s.core) s)
  let plan := s.plans.active
  let s := allOff { s with plans := { s.plans with active := none }, outSet := none }
  let s := { s with sel := { source := none, joined := false } }
  raisePlan plan .stop s.core.syncIndex s

/-- TIME_STOP's effect and response: in IDLE nothing changes (R152). -/
def timeStop (_ : List Byte) (s : State) : Answer × State :=
  let s := if s.core.state = .idle then s else stopTime s
  ok (u64 s.core.time ++ u32 s.core.syncIndex.toNat) s

/-- TIME_STOP (R152). -/
def execTimeStop (s : State) : Host.Outcome State Fault Refusal := take .timeStop (withLength [0] timeStop) s

/-- The fields of TIME_READ's response (Table 9-3, Table 12-8). -/
def timeFields (s : State) : List Byte :=
  u64 s.core.time ++ u8 (codeFlag s.core.valid) ++ u8 (codeCoreState s.core.state) ++ u8 (codeFlag s.core.takeover)
    ++ u8 ((s.core.remembered.map codeCoreState).getD 0xFF) ++ u32 s.core.syncIndex.toNat ++ u32 s.core.steps ++ u8 (codeOpt s.sel.source)
    ++ u8 (codeFlag s.sel.joined) ++ u8 s.core.grade ++ u8 s.core.hops ++ u8 (codeOpt s.plans.active)

/-- TIME_READ (R153). -/
def execTimeRead (s : State) : Host.Outcome State Fault Refusal := take .timeRead (withLength [0] (fun _ s => ok (timeFields s) s)) s

/-! ## Actions (R92 to R94, R104, R154 to R156) -/

/-- The order id of an ACTION_ADD payload: present when the length is 20 (R154 e). -/
def addedOrder (b : List Byte) : Option Nat := if b.length = 20 then some (numAt b 18 2) else none

/-- Check 3 of R93: the action and the order id of a payload whose fields are in range and agree; none is BAD_VALUE. -/
def addedAction (b : List Byte) : Option (Action × Option OrderId) :=
  match flagOf (byteAt b 1), addedOrder b, actionOf (byteAt b 0) (b.drop 10) with
  | some true, some o, some a => if o = 0 then none else some (a, some (BitVec.ofNat 16 o))
  | some false, none, some a => some (a, none)
  | _, _, _ => none

/-- ACTION_ADD's five checks in order (R93) and its insertion (R94). -/
def actionAdd (b : List Byte) (s : State) : Answer × State :=
  if ¬s.core.valid then no .wrongState s
  else if duePassed (timeAt b 2) s then no .tooLate s
  else
    match addedAction b with
    | none => no .badValue s
    | some (a, o) =>
      if (o.map (fun o => orderKnown o s.sched)).getD false then no .duplicate s
      else if queueFull s.sched then no .queueFull s
      else
        let out := insertAction a (timeAt b 2) .channel o (if o.isSome then 3 else 0) s.sched
        ok (u8 out.1) { s with sched := out.2 }

/-- ACTION_ADD (R154). -/
def execActionAdd (s : State) : Host.Outcome State Fault Refusal := take .actionAdd (withLength [18, 20] actionAdd) s

/-- ACTION_CANCEL's checks and effect (R104, R155). -/
def actionCancel (b : List Byte) (s : State) : Answer × State :=
  if byteAt b 0 = 0 then no .badValue s
  else
    match s.sched.queue.find? (fun e => e.id == byteAt b 0) with
    | none => no .notFound s
    | some e =>
      if e.outcome.isSome then no .wrongState s
      else ok [] (raiseItem e .cancelled { s with sched := { s.sched with queue := finishEntry e.id .cancelled s.sched.queue } })

/-- ACTION_CANCEL (R155). -/
def execActionCancel (s : State) : Host.Outcome State Fault Refusal := take .actionCancel (withLength [1] actionCancel) s

/-- ACTION_LIST's check and response: the number held, the number returned, and at most 8 entries from the start position (R92, R156). -/
def actionList (b : List Byte) (s : State) : Answer × State :=
  if 31 < byteAt b 0 then no .badValue s
  else
    let es := (s.sched.queue.drop (byteAt b 0)).take 8
    ok (u8 s.sched.queue.length ++ u8 es.length ++ es.flatMap entryBytes) s

/-- ACTION_LIST (R156). -/
def execActionList (s : State) : Host.Outcome State Fault Refusal := take .actionList (withLength [1] actionList) s

/-! ## Lines, captures and the halt policy (R119, R124, R157 to R159) -/

/-- The edge choices of a LINE_SET payload; none when one is out of range. -/
def edgesOf (b : List Byte) : Option (Per4 EdgeChoice) :=
  match edgeChoiceOf (byteAt b 0), edgeChoiceOf (byteAt b 1), edgeChoiceOf (byteAt b 2), edgeChoiceOf (byteAt b 3) with
  | some e0, some e1, some e2, some e3 => some ⟨e0, e1, e2, e3⟩
  | _, _, _, _ => none

/-- The polarities of a LINE_SET payload; none when one is out of range. -/
def polaritiesOf (b : List Byte) : Option (Per4 Polarity) :=
  match polarityOf (byteAt b 4), polarityOf (byteAt b 5), polarityOf (byteAt b 6), polarityOf (byteAt b 7) with
  | some q0, some q1, some q2, some q3 => some ⟨q0, q1, q2, q3⟩
  | _, _, _, _ => none

/-- The polarities taken by the outputs: neither an active flag nor a remaining width changes (R120). -/
def setPolarities (q : Per4 Polarity) (v : Per4 Pulse) : Per4 Pulse :=
  ⟨{ v.a0 with polarity := q.a0 }, { v.a1 with polarity := q.a1 }, { v.a2 with polarity := q.a2 }, { v.a3 with polarity := q.a3 }⟩

/-- The fields of LINE_SET's response (R124, Table 12-8). -/
def lineFields (s : State) : List Byte :=
  s.capture.edges.toList.flatMap (fun e => u8 (codeEdgeChoice e)) ++ s.pulses.toList.flatMap (fun q => u8 (codePolarity q.polarity))
    ++ s.pulses.toList.flatMap (fun q => u8 (codeFlag q.active) ++ u16 q.width) ++ u8 s.capture.fifo.length ++ u16 s.capture.gap

/-- LINE_SET's check and effect (R124). -/
def lineSet (b : List Byte) (s : State) : Answer × State :=
  match edgesOf b, polaritiesOf b with
  | some e, some q =>
    let s := { s with capture := { s.capture with edges := e }, pulses := setPolarities q s.pulses }
    ok (lineFields s) s
  | _, _ => no .badValue s

/-- LINE_SET (R157). -/
def execLineSet (s : State) : Host.Outcome State Fault Refusal := take .lineSet (withLength [8] lineSet) s

/-- CAPTURE_READ's effect and response: up to 8 oldest records leave the FIFO (R119, R158). -/
def captureRead (_ : List Byte) (s : State) : Answer × State :=
  let rs := s.capture.fifo.take 8
  let rest := s.capture.fifo.drop 8
  ok (u8 rs.length ++ rs.flatMap captureBytes ++ u8 rest.length ++ u16 s.capture.gap) { s with capture := { s.capture with fifo := rest } }

/-- CAPTURE_READ (R158). -/
def execCaptureRead (s : State) : Host.Outcome State Fault Refusal := take .captureRead (withLength [0] captureRead) s

/-- A new halt policy acted on (R159): to FREEZE with HALTN low is an assertion, to IGNORE a release. -/
def haltPolicy (new : HaltPolicy) (s : State) : State :=
  let old := s.halt.policy
  let s := { s with halt := { s.halt with policy := new } }
  if old = new then s
  else
    match new with
    | .freeze => if s.halt.level = .low then assertHalt s else s
    | .ignore => releaseHalt s

/-- HALT_SET's check, effect and response (R159). -/
def haltSet (b : List Byte) (s : State) : Answer × State :=
  match haltPolicyOf (byteAt b 0) with
  | none => no .badValue s
  | some new =>
    let s := haltPolicy new s
    ok (u8 (codeHaltPolicy s.halt.policy) ++ u8 (codeLevel s.halt.level) ++ u8 (codeCoreState s.core.state)) s

/-- HALT_SET (R159). -/
def execHaltSet (s : State) : Host.Outcome State Fault Refusal := take .haltSet (withLength [1] haltSet) s

/-! ## Notices (R160, R161, R167) -/

/-- The window split at a sequence number: the notices up to and including it, and those after it; none when the window holds no such number
(R160). -/
def splitWindow (q : SeqNo) : List SentNotice → Option (List SentNotice × List SentNotice)
  | [] => none
  | n :: ns =>
    if n.seq = q then some ([n], ns)
    else
      match splitWindow q ns with
      | some (a, b) => some (n :: a, b)
      | none => none

/-- The notice unit after an acknowledgement that removed notices: they leave the window and the resend list, and the timer stops on an empty window and
is restarted otherwise (R167), except in QUIET, where it does not run (R168, log entry 25). -/
def acknowledged (gone left : List SentNotice) (u : NoticeUnit) : NoticeUnit :=
  { u with
    window := left
    resend := u.resend.filter (fun q => q ∉ gone.map SentNotice.seq)
    timer := if left = [] ∨ u.liveness = .quiet then none else some (ackTicks u) }

/-- NOTICE_ACK's check, effect and response (R109, R160, R167). -/
def noticeAck (b : List Byte) (s : State) : Answer × State :=
  match splitWindow (BitVec.ofNat 16 (numAt b 0 2)) s.notices.window with
  | none => no .notFound s
  | some (gone, left) =>
    ok (u8 gone.length ++ u8 left.length)
      { s with notices := acknowledged gone left s.notices, sched := gone.foldl releaseNotice s.sched }

/-- NOTICE_ACK (R160). -/
def execNoticeAck (s : State) : Host.Outcome State Fault Refusal := take .noticeAck (withLength [2] noticeAck) s

/-- A mask that leaves READY and ACTIONS enabled and its unused bit clear (R161, R177). -/
def maskAllowed (m : Byte) : Bool := m.getLsbD 0 && m.getLsbD 3 && !m.getLsbD 7

/-- NOTICE_SET's checks and effect (R161). -/
def noticeSet (b : List Byte) (s : State) : Answer × State :=
  let m := b.getD 1 0
  if byteAt b 0 < 5 then no .badValue s
  else if maskAllowed m then ok (u8 (byteAt b 0) ++ [m]) { s with notices := { s.notices with timeout := byteAt b 0, mask := m } }
  else no .badValue s

/-- NOTICE_SET (R161). -/
def execNoticeSet (s : State) : Host.Outcome State Fault Refusal := take .noticeSet (withLength [2] noticeSet) s

end Sys2Proof.Machine
end

