-- ==== Sys2Proof/Machine/Dispatch.lean ====
section
/-! DEFINITION. exec: one arm per constructor of Instr, each a direct call of that command's meaning. -/

namespace Sys2Proof.Machine

def exec (i : Instr) (s : State) : Host.Outcome State Fault Refusal :=
  match i with
  | .powerOnReset baud1 baud0 haltn ev => Sys2Proof.Machine.execPowerOnReset baud1 baud0 haltn ev s
  | .channelByte b => Sys2Proof.Machine.execChannelByte b s
  | .frameTimerExpiry => Sys2Proof.Machine.execFrameTimerExpiry s
  | .undefinedRequest => Sys2Proof.Machine.execUndefinedRequest s
  | .ping => Sys2Proof.Machine.execPing s
  | .restart => Sys2Proof.Machine.execRestart s
  | .restartTakesEffect => Sys2Proof.Machine.execRestartTakesEffect s
  | .planWrite => Sys2Proof.Machine.execPlanWrite s
  | .planRead => Sys2Proof.Machine.execPlanRead s
  | .planClear => Sys2Proof.Machine.execPlanClear s
  | .fallbackSet => Sys2Proof.Machine.execFallbackSet s
  | .fallbackRead => Sys2Proof.Machine.execFallbackRead s
  | .linkSet => Sys2Proof.Machine.execLinkSet s
  | .linkRead => Sys2Proof.Machine.execLinkRead s
  | .timeStart => Sys2Proof.Machine.execTimeStart s
  | .timeStop => Sys2Proof.Machine.execTimeStop s
  | .timeRead => Sys2Proof.Machine.execTimeRead s
  | .actionAdd => Sys2Proof.Machine.execActionAdd s
  | .actionCancel => Sys2Proof.Machine.execActionCancel s
  | .actionList => Sys2Proof.Machine.execActionList s
  | .lineSet => Sys2Proof.Machine.execLineSet s
  | .captureRead => Sys2Proof.Machine.execCaptureRead s
  | .haltSet => Sys2Proof.Machine.execHaltSet s
  | .noticeAck => Sys2Proof.Machine.execNoticeAck s
  | .noticeSet => Sys2Proof.Machine.execNoticeSet s
  | .transmitDone => Sys2Proof.Machine.execTransmitDone s
  | .ackTimerExpiry => Sys2Proof.Machine.execAckTimerExpiry s
  | .linkMark l k b => Sys2Proof.Machine.execLinkMark l k b s
  | .pulseWidthEnd o => Sys2Proof.Machine.execPulseWidthEnd o s
  | .holdoverExpired => Sys2Proof.Machine.execHoldoverExpired s
  | .generatorStep => Sys2Proof.Machine.execGeneratorStep s
  | .lossTimerExpiry l => Sys2Proof.Machine.execLossTimerExpiry l s
  | .holdoffTimerExpiry l => Sys2Proof.Machine.execHoldoffTimerExpiry l s
  | .haltnAssert => Sys2Proof.Machine.execHaltnAssert s
  | .haltnRelease => Sys2Proof.Machine.execHaltnRelease s
  | .eventEdge line edge => Sys2Proof.Machine.execEventEdge line edge s
  | .caughtUpMarkLeaves l => Sys2Proof.Machine.execCaughtUpMarkLeaves l s

end Sys2Proof.Machine
end

