-- ==== Sys2Proof/Machine/Tick.lean ====
section
/-! DEFINITION. One tick of the reference clock, which is what the part does when no command waits (log entry 1): every counter of ticks moves, the
transmitter may begin a frame, and the part's own events that have fallen due are put into the queue. -/

namespace Sys2Proof.Machine

/-! ## Counters of ticks -/

/-- The ticks since the last step stop at 65535 (R4), and the time to the generator's next step passes in the states that count (R7). -/
def tickCore (c : Core) : Core :=
  { c with
    ticks := satSucc Config.max16 c.ticks
    gen := { c.gen with elapsed := if counting c.state then c.gen.elapsed + 1 else c.gen.elapsed } }

/-- A running timer falls by one and stands at 0 until its expiry is taken. -/
def tickTimer (t : Option Nat) : Option Nat := t.map Nat.pred

/-- The ticks since the previous measured mark stop at 65535 (R42), and the qualifier's two timers run (R49, R50). -/
def tickQual (q : Qualifier) : Qualifier :=
  { q with sinceMark := satSucc Config.max16 q.sinceMark, loss := tickTimer q.loss, hold := tickTimer q.hold }

/-- A pair carries its mark for 4 ticks (R26). -/
def tickPair (p : Pair) : Pair := { p with busy := p.busy - 1, mark := if p.busy ≤ 1 then none else p.mark }

/-- One link's tick. -/
def tickLink (u : LinkUnit) : LinkUnit := { u with qual := tickQual u.qual, pair := tickPair u.pair }

/-- One tick of the frame being sent: its line time falls by the line rate (R126, log entry 18). -/
def tickSending (rate : LineRate) (t : Transmission) : Transmission := { t with left := t.left - baud rate }

/-- The channel's tick: the frame timer runs (R130) and the line carries its frame. -/
def tickChannel (c : Channel) : Channel :=
  { c with frameTimer := tickTimer c.frameTimer, sending := c.sending.map (tickSending c.rate) }

/-- One tick passes in every block. -/
def advance (s : State) : State :=
  { s with
    core := tickCore s.core
    passing := []
    caughtUp := none
    edgeAt := none
    links := s.links.map tickLink
    channel := tickChannel s.channel
    notices := { s.notices with timer := tickTimer s.notices.timer } }

/-! ## Events that have fallen due -/

/-- An event in a list when its condition holds. -/
def dueIf (due : Bool) (c : Instr) : List Instr := if due then [c] else []

/-- The events of one link that have fallen due (R26, R49, R50). -/
def dueOnLink (s : State) (l : LinkNo) : List Instr :=
  let q := (link l s).qual
  dueIf (decide (q.loss = some 0)) (.lossTimerExpiry l)
    ++ dueIf (decide (q.state = .failed) && decide (q.hold = some 0)) (.holdoffTimerExpiry l)
    ++ dueIf (markMayLeave l s) (.caughtUpMarkLeaves l)

/-- The last byte of a frame has left the line (R137). -/
def frameSent (s : State) : Bool :=
  match s.channel.sending with
  | some t => decide (t.left = 0)
  | none => false

/-- The request that the handler may take (R135, log entry 4). -/
def dueRequest (s : State) : List Instr :=
  match oldestRequest s with
  | some r => [requestCommand r.kind]
  | none => []

/-- Every event of the part's own that has fallen due. -/
def dueEvents (s : State) : List Instr :=
  dueIf (stepDue s.core) .generatorStep ++ allLinks.flatMap (dueOnLink s)
    ++ dueIf (decide (s.channel.frameTimer = some 0)) .frameTimerExpiry
    ++ dueIf (decide (s.notices.timer = some 0)) .ackTimerExpiry
    ++ dueIf (frameSent s) (if restartDue s then .restartTakesEffect else .transmitDone)
    ++ dueRequest s

/-- The `k`th free choice among `n` places (log entry 3). -/
def freePlace (k n : Nat) : Nat := Config.tieBreak k % n

/-- The events that fall due together in a free order: each is put at a free place among those before it (log entry 3). `k` numbers the choices. -/
def arrange : Nat → List Instr → List Instr
  | _, [] => []
  | _, [c] => [c]
  | k, c :: d :: cs =>
    let rest := arrange (k + 1) (d :: cs)
    rest.insertIdx (freePlace k (rest.length + 1)) c

/-- The due events put into the empty queue. -/
def enqueueDue (s : State) : State :=
  let es := dueEvents s
  { s with pending := arrange s.choices es, choices := s.choices + es.length }

/-- One tick of the part with no command waiting. -/
def tick (s : State) : State := enqueueDue (transmit (advance s))

end Sys2Proof.Machine
end

