-- ==== Sys2Proof/Safety.lean ====
section
/-! DEFINITION. The words the statements are made of: what a taken request leaves on the channel, the allowed payload lengths, when an event is due, what a
firing settles, what a mark leaves in a qualifier, and the invariants of the machine, block by block. -/

namespace Sys2Proof.Machine

/-! ## Requests and responses -/

/-- The slots of the response list that are reserved (R133). -/
def reservedSlots (l : List Slot) : Nat := l.countP (fun x => x == .reserved)

/-- Each request of the queue has its reserved slot, and no other slot is reserved (R134, R136). -/
def SlotsMatch (c : Channel) : Prop := reservedSlots c.responses = c.requests.length

/-- The line given to a frame, with ten bit periods of line time for each of its bytes, in ticks times baud (R126, R137). -/
def sendFrame (f : Outgoing) (c : Channel) : Channel :=
  { c with sending := some { frame := f, left := (outgoingBytes f).length * 10 * 125000000 } }

/-- The handler takes a request with this tag, kind and payload: it is the oldest of the queue, and no restart is pending (R135). -/
def TakesRequest (tag kind : Byte) (payload : List Byte) (s : State) : Prop :=
  s.channel.handling = none ∧ s.channel.requests.head? = some ⟨tag, kind, payload⟩ ∧ SlotsMatch s.channel

/-- An idle line begins the oldest response of the list when it is filled (R137 a). -/
def startLine (c : Channel) : Channel :=
  match c.sending, c.responses with
  | none, .filled r :: _ => { c with sending := some { frame := .response r, left := lineTime (.response r) } }
  | _, _ => c

/-- The channel after the oldest request is taken and answered: the request gone, its slot filled, and the line begun if it was idle (R135, R137). -/
def respond (r : Response) (c : Channel) : Channel :=
  startLine { c with requests := c.requests.tail, responses := fillSlot r c.responses }

/-- The channel after a request of a defined kind is answered: its tag, its kind plus 0x80, a status and the fields that follow it (R128, R140). -/
def answered (tag kind : Byte) (status : Status) (fields : List Byte) (c : Channel) : Channel :=
  respond { tag := tag, kind := kind + 0x80, status := status, fields := fields } c

/-- The payload lengths a request kind allows (Table 9-5); none for a kind the part does not define. -/
def allowedLengths (kind : Byte) : List Nat :=
  match kind.toNat with
  | 0x01 => [0]
  | 0x02 => [0]
  | 0x03 => [24]
  | 0x04 => [1]
  | 0x05 => [1]
  | 0x06 => [0, 1, 2, 3]
  | 0x07 => [0]
  | 0x08 => [3]
  | 0x09 => [1]
  | 0x0A => [2]
  | 0x0B => [1, 9]
  | 0x0C => [0]
  | 0x0D => [0]
  | 0x0E => [18, 20]
  | 0x0F => [1]
  | 0x10 => [1]
  | 0x11 => [8]
  | 0x12 => [0]
  | 0x13 => [1]
  | 0x14 => [2]
  | _ => []

/-- The state after a taken request is answered, over the state that its effect leaves. -/
def answerWith (tag kind : Byte) (status : Status) (fields : List Byte) (s : State) : State :=
  { s with channel := answered tag kind status fields s.channel }

/-- A queue with one entry put after every entry of no greater due and before every entry of greater due (R90). -/
def InsertedByDue (e : Entry) (q q' : List Entry) : Prop :=
  ∃ before after, q = before ++ after ∧ q' = before ++ e :: after ∧ (∀ x ∈ before, x.due.toNat ≤ e.due.toNat)
    ∧ ∀ x ∈ after, e.due.toNat < x.due.toNat

/-- The action id `k` places after `n`, cyclically from 1 to 255 (R91). -/
def idAfter (n k : Nat) : Nat := (n - 1 + k) % 255 + 1

/-- The action id that a new entry takes: the counter's own value where no entry holds that, and else the next one, cyclically, that none holds (R91). -/
def FreshId (c : Schedule) (id : Nat) : Prop :=
  id ∉ c.queue.map Entry.id ∧ ∃ k < 255, id = idAfter c.nextId k ∧ ∀ j < k, idAfter c.nextId j ∈ c.queue.map Entry.id

/-- The schedule after the insertion of an entry: the entry in its place, the counter at the value after its id (R90, R91). -/
def Inserted (e : Entry) (c c' : Schedule) : Prop :=
  FreshId c e.id ∧ InsertedByDue e c.queue c'.queue ∧ c'.nextId = (if e.id = 255 then 1 else e.id + 1) ∧ c'.spent = c.spent

/-- A field of a plan record of 23 bytes passes its check (Table 4-3, R62, Table 12-6). -/
def PlanFieldPasses (r : List Byte) : Nat → Prop
  | 1 => byteAt r 0 ≤ 2
  | 2 => ∀ i < 6, byteAt r (1 + i) ≤ 2
  | 3 => byteAt r 7 ≤ 3 ∧ (∀ b ∈ (r.drop 8).take (byteAt r 7), b.toNat ≤ 5 ∧ byteAt r (1 + b.toNat) = 2)
      ∧ ((r.drop 8).take (byteAt r 7)).Nodup ∧ (byteAt r 0 = 0 ↔ byteAt r 7 = 0)
  | 4 => byteAt r 11 ≤ 1
  | 5 => 1 ≤ byteAt r 12 ∧ byteAt r 12 ≤ 4
  | 6 => 16 ≤ numAt r 13 2 ∧ numAt r 13 2 ≤ 1023
  | 7 => byteAt r 15 ≤ 63
  | 8 => 1 ≤ byteAt r 16
  | 9 => 1 ≤ byteAt r 17 ∧ byteAt r 17 ≤ 15
  | 10 => 64 ≤ numAt r 18 2 ∧ numAt r 18 2 ≤ 8192
  | 11 => byteAt r 20 ≤ 1
  | _ => True

/-! ## Events of the part's own -/

/-- The frame whose last byte leaves is RESTART's OK, on which a restart waits (R138). -/
def RestartLeaves (s : State) : Prop :=
  s.channel.handling.isSome ∧ ∃ r, s.channel.sending = some { frame := .response r, left := 0 } ∧ r.kind = 0x82 ∧ r.status = .ok

/-- When an event is due that the part makes itself: a generator step (R7), the loss and hold-off timers (R49, R50), a waiting mark (R26), the frame timer
(R130), the acknowledgement timer (R168), the end of a frame (R137, R138), and the oldest request at a handler with no restart pending (R135). -/
def EventDue (s : State) : Instr → Prop
  | .generatorStep => s.core.gen.running = true ∧ s.core.gen.spacing ≤ s.core.gen.elapsed
  | .lossTimerExpiry l => (link l s).qual.loss = some 0
  | .holdoffTimerExpiry l => (link l s).qual.state = .failed ∧ (link l s).qual.hold = some 0
  | .caughtUpMarkLeaves l => mayEmit s.core = true ∧ (link l s).pair.busy = 0 ∧ (link l s).pair.waiting ≠ []
  | .frameTimerExpiry => s.channel.frameTimer = some 0
  | .ackTimerExpiry => s.notices.timer = some 0
  | .transmitDone => ¬RestartLeaves s ∧ ∃ f, s.channel.sending = some { frame := f, left := 0 }
  | .restartTakesEffect => RestartLeaves s
  | c => s.channel.handling = none ∧ ∃ r, s.channel.requests.head? = some r ∧ requestCommand r.kind = c

/-! ## Firings -/

/-- An entry is a LOAD. -/
def isLoad (e : Entry) : Bool :=
  match e.action with
  | .load _ => true
  | _ => false

/-- An entry is a SWITCH that the failover controller takes: its plan is LOADED (R82). -/
def takenSwitch (records : Per4 (Option Plan)) (e : Entry) : Bool :=
  match e.action with
  | .switch n => (records.get n).isSome
  | _ => false

/-- What a firing settles for each of its entries, in queue order: DONE or LATE by the record (R99), a LOAD that another LOAD follows SUPERSEDED (R100 a), a
SWITCH to an EMPTY plan REFUSED and a taken one that another taken one follows SUPERSEDED (R82, R101). -/
def settledEntries (records : Per4 (Option Plan)) (r : SyncRecord) : List Entry → List (Entry × Ending)
  | [] => []
  | e :: es =>
    let first : Ending := if r.valid ∧ r.final.toNat < e.due.toNat then .done else .late
    (e, match e.action with
      | .load _ => if es.any isLoad then .superseded else first
      | .switch n => if records.get n = none then .refused else if es.any (takenSwitch records) then .superseded else first
      | .pulse _ _ _ => first) :: settledEntries records r es

/-- The time value after the LOADs of a firing, each applied in turn (R17, R100 a). -/
def afterLoads (es : List Entry) (v : Time) : Time :=
  es.foldl (fun v e => match e.action with
    | .load x => x
    | _ => v) v

/-- The held switch target after the SWITCHes of a firing, the last taken one's (R82 b). -/
def afterSwitches (records : Per4 (Option Plan)) (es : List Entry) (held : Option PlanNo) : Option PlanNo :=
  es.foldl (fun h e => match e.action with
    | .switch n => if (records.get n).isSome then some n else h
    | _ => h) held

/-- The outputs after the PULSEs of a firing (R100 c, R121). -/
def afterPulses (es : List Entry) (q : Per4 Pulse) : Per4 Pulse :=
  es.foldl (fun q e => match e.action with
    | .pulse o w _ => q.set o { q.get o with active := true, width := w }
    | _ => q) q

/-- An entry stays PENDING after it fired: a PULSE with a period (R102 b). -/
def repeats (e : Entry) : Bool :=
  match e.action with
  | .pulse _ _ q => decide (q ≠ 0)
  | _ => false

/-- A settled entry after its turn, at the sync time `v`: FINISHED with its outcome, or a repeating PULSE at its new due (R102). -/
def afterTurn (v : Time) (sps : Nat) (x : Entry × Ending) : Entry :=
  match x.1.action with
  | .pulse _ _ q =>
    if q = 0 then { x.1 with outcome := some x.2, sends := 0 } else { x.1 with due := v + BitVec.ofNat 64 (q * sps), sends := 0 }
  | _ => { x.1 with outcome := some x.2, sends := 0 }

/-! ## Marks -/

/-- The mark of a counted step on every SEND link (R26). -/
def markOnSendLinks (m : Mark) (v : Per6 LinkUnit) : Per6 LinkUnit :=
  v.map (fun u => if u.dir = .send then { u with pair := pairSend m u.pair } else u)

/-- A link on which a mark is good: its qualifier VALID, the interval within the tolerance, and the mark where the sync phase expects it (R42, R44). -/
def AwaitsGoodMark (p : Plan) (sync : Bool) (q : Qualifier) : Prop :=
  q.state = .valid ∧ q.sinceMark ≤ p.nominal + p.tolerance ∧ p.nominal ≤ q.sinceMark + p.tolerance
    ∧ ∃ ph n, q.phase = some ph ∧ ph < 65535 ∧ q.intervalSps = some n
      ∧ if sync then ph + 1 = n ∧ q.announceSeen = true else ph + 1 ≠ n

/-- A step whose interval differs from the nominal by no more than the tolerance (R42). -/
def IntervalIsGood (p : Plan) (q : Qualifier) : Prop := q.sinceMark ≤ p.nominal + p.tolerance ∧ p.nominal ≤ q.sinceMark + p.tolerance

/-- A plain mark at the phase that the interval's sync should have, with the phase known (R44 b). -/
def PlainMarkIsFault (q : Qualifier) : Prop := ∃ n, q.phase = some n ∧ q.intervalSps = some (min (n + 1) 65535)

/-- A qualifier after a plain mark is measured: its interval, its phase, its statistics and its loss timer (R42, R43, R49, R55). -/
def measuredPlain (p : Plan) (bad fault : Bool) (q : Qualifier) : Qualifier :=
  { q with
    lastInterval := some q.sinceMark, sinceMark := 0, phase := q.phase.map (fun n => min (n + 1) 65535), loss := some (4 * p.nominal)
    badSteps := if bad then min (q.badSteps + 1) 65535 else q.badSteps
    syncFaults := if fault then min (q.syncFaults + 1) 65535 else q.syncFaults }

/-- A sync mark that is a sync fault: the phase is known, and the mark comes at another phase than the interval's SPS or with no announce seen (R44 a, c). -/
def SyncMarkIsFault (q : Qualifier) : Prop :=
  ∃ n, q.phase = some n ∧ (q.intervalSps ≠ some (min (n + 1) 65535) ∨ q.announceSeen = false)

/-- A qualifier after a sync mark is measured: its interval, the phase 0, the plan's SPS, the announce-seen flag clear, its statistics and its loss timer (R42, R43,
R44, R49, R55). -/
def measuredSync (p : Plan) (bad fault : Bool) (q : Qualifier) : Qualifier :=
  { q with
    lastInterval := some q.sinceMark, sinceMark := 0, phase := some 0, intervalSps := some p.sps, announceSeen := false, loss := some (4 * p.nominal)
    badSteps := if bad then min (q.badSteps + 1) 65535 else q.badSteps
    syncFaults := if fault then min (q.syncFaults + 1) 65535 else q.syncFaults }

/-- A plain mark whose work left `t`: with no byte that is all but the transmitter's choice; with one the byte is taken into message assembly (R25, R30), and a
generator that a message's taking starts catches up at the end (R7, log entry 7). -/
def afterByte (l : LinkNo) (b : Option Byte) (s t : State) : State :=
  match b with
  | none => transmit t
  | some byte => endCatchUp s (transmit (catchUp false s (assemble l byte t)))

/-- A receiver with no announce and no QUALITY of either interval; what it assembles stands (R174). -/
def recordsCleared (rx : Receiver) : Receiver := { rx with annCur := none, annLast := none, qualCur := none, qualLast := none }

/-- A receiver whose interval has rolled over, with no message in progress (R32). -/
def rolledOver (rx : Receiver) : Receiver :=
  { msg := [], discard := false, annCur := none, annLast := rx.annCur, qualCur := none, qualLast := rx.qualCur }

/-- A link after a good sync mark that ended its interval: the mark measured, and the interval's records rolled over (R32, R42, R43, R49). -/
def afterSyncMark (p : Plan) (u : LinkUnit) : LinkUnit :=
  { u with
    qual := { u.qual with
      lastInterval := some u.qual.sinceMark, sinceMark := 0, phase := some 0, intervalSps := some p.sps, announceSeen := false,
      loss := some (4 * p.nominal) }
    rx := rolledOver u.rx }

/-- The grade and hops that a link's latest QUALITY gives; none counts as grade 4 and hops 14 (R34). -/
def gradeAndHops : Option Quality → Nat × Nat
  | some q => (q.grade, q.hops)
  | none => (4, 14)

/-- A field of a whole link message is out of the range of section 2.6, by its type byte and Table 12-12. -/
def MessageOutOfRange (m : List Byte) : Prop :=
  (byteAt m 0 = 0xA1 ∧ 3 < byteAt m 9)
  ∨ (byteAt m 0 = 0xA2 ∧ (4 < byteAt m 1 ∨ 15 < byteAt m 2 ∨ 1 < byteAt m 3 ∨ byteAt m 4 < 2 ∨ 5 < byteAt m 4))
  ∨ (byteAt m 0 = 0xB1 ∧ numAt m 1 2 = 0)
  ∨ (byteAt m 0 = 0xB2 ∧ (numAt m 1 2 = 0 ∨ 3 < byteAt m 11))
  ∨ (byteAt m 0 = 0xB3 ∧ (numAt m 1 2 = 0 ∨ 3 < byteAt m 11 ∨ numAt m 12 2 = 0))

/-! ## The generator and the selection -/

/-- The spacing of the interval after a generator step, whether it is a learned one, and the cycle position (R7): in HOLDOVER, and in FREE, with a valid
record the learned interval that the position names, and else the nominal interval. The position moves on at a step spaced by a learned interval. -/
def NextInterval (p : Plan) (c : Core) (g : Generator) : Prop :=
  g.running = c.gen.running ∧ g.cycle = (if c.gen.fromRecord then c.gen.cycle + 1 else c.gen.cycle)
    ∧ (g.spacing, g.fromRecord) = if (c.state = .holdover ∨ c.state = .free) ∧ c.learned.length = 8 then (c.learned.getD g.cycle.val 0, true)
        else (p.nominal, false)

/-- The state and holdover count of a core that carries on alone (R12): FREE and HOLDOVER stay, with the count kept, and any other state goes to HOLDOVER with
count 0 when the learned record holds 8 intervals and to FREE otherwise. -/
def aloneState (was : CoreState) (learned count : Nat) : CoreState × Nat :=
  if was = .free then (.free, count)
  else if was = .holdover then (.holdover, count)
  else if learned = 8 then (.holdover, 0)
  else (.free, count)

/-! ## Invariants -/

/-- Held bytes that begin a frame: none, or a START, then a LEN in range, and fewer bytes than the frame has (R129, R131). -/
def BeginsFrame (held : List Byte) : Prop :=
  held = [] ∨ held = [0x5B] ∨
    (held.head? = some 0x5B ∧ 2 ≤ held.length ∧ 2 ≤ byteAt held 1 ∧ byteAt held 1 ≤ 242 ∧ held.length < byteAt held 1 + 4)

/-- The channel's lists keep their capacities and each request its slot; a response being sent is the oldest of the list; the held bytes begin a
frame, and the frame timer runs exactly while bytes are held (R129, R130, R133 to R137). -/
def ChannelInv (c : Channel) : Prop :=
  SlotsMatch c ∧ c.requests.length ≤ 4 ∧ c.responses.length ≤ 6
    ∧ (∀ t, c.sending = some t → ∀ r, t.frame = .response r → c.responses.head? = some (.filled r))
    ∧ BeginsFrame c.held ∧ (c.frameTimer = none ↔ c.held = [])

/-- The sequence numbers of the window run on without a break up to the one before the next (R162, R166). -/
def ConsecutiveWindow (u : NoticeUnit) : Prop :=
  u.window.map SentNotice.seq
    = (List.range u.window.length).map (fun i => u.nextSeq - BitVec.ofNat 16 u.window.length + BitVec.ofNat 16 i)

/-- The notice unit: one unsent notice a key at most, at most 4 notices in the window with consecutive numbers, a resend list taken from the window in its
order, a silent unit while QUIET, and a mask that leaves READY and ACTIONS enabled (R162, R166, R168, R177). -/
def NoticeInv (u : NoticeUnit) : Prop :=
  (u.unsent.map noticeKey).Nodup ∧ u.window.length ≤ 4 ∧ ConsecutiveWindow u
    ∧ u.resend.Sublist (u.window.map SentNotice.seq) ∧ (u.timer.isSome → u.window ≠ [])
    ∧ (u.liveness = .quiet → u.retry = 3 ∧ u.timer = none ∧ u.resend = []) ∧ (u.liveness = .live → u.retry ≤ 2)
    ∧ maskAllowed u.mask = true

/-- Every link has the direction the active plan gives it, OFF with no active plan (R23). -/
def DirectionsFollowPlan (s : State) : Prop :=
  ∀ l, (link l s).dir = match activePlan s with
    | some p => p.dirs.get l
    | none => .off

/-- A core in takeover is MASTER, or HALTED from MASTER, under a plan whose role is BACKUP (R12, R65, R74). -/
def TakeoverIsBackup (s : State) : Prop :=
  s.core.takeover = true →
    (s.core.state = .master ∨ (s.core.state = .halted ∧ s.core.remembered = some .master)) ∧ (activePlan s).map Plan.role = some .backup

/-- The plan table, the links' directions, the qualifiers and the selection agree: an active plan exactly outside IDLE, and LOADED (R57); directions
by the active plan (R23); a qualifier OFF exactly when its link is not RECEIVE (R46, R51); a selected source that is RECEIVE with its qualifier VALID or
SUSPECT, and no joined flag without one (R67); a takeover under a BACKUP plan only; in IDLE no valid time, no PENDING entry and no
message set (R2, R103, R40). -/
def PlanInv (s : State) : Prop :=
  (s.core.state = .idle ↔ s.plans.active = none) ∧ (∀ i, s.plans.active = some i → (s.plans.records.get i).isSome)
    ∧ DirectionsFollowPlan s ∧ (∀ l, (link l s).qual.state = .off ↔ (link l s).dir ≠ .receive)
    ∧ (∀ l, s.sel.source = some l → (link l s).qual.state = .valid ∨ (link l s).qual.state = .suspect)
    ∧ (s.sel.joined = true → s.sel.source.isSome)
    ∧ TakeoverIsBackup s
    ∧ (s.core.state = .idle → s.core.valid = false ∧ s.outSet = none ∧ ∀ e ∈ s.sched.queue, e.outcome.isSome)

/-- Own grade and hops by core state (Table 1-4); LOCKED and HALTED hold what their source or the state before gave. -/
def GradeFollowsState (c : Core) : Prop :=
  match c.state with
  | .master => (c.grade, c.hops) = if c.takeover then (2, 0) else (0, 0)
  | .holdover => c.grade = 3
  | .free => c.grade = 4
  | .acquiring | .idle => (c.grade, c.hops) = (4, 15)
  | .locked => 1 ≤ c.grade ∧ 1 ≤ c.hops ∧ c.hops ≤ 15
  | .halted => True

/-- The time core: the generator runs exactly in HOLDOVER, FREE and MASTER (R7); time is valid in the states that count, and the latest sync record
whenever time is (Table 1-2, R93); a state is remembered exactly in HALTED, and it is neither IDLE nor HALTED (R20); own grade and hops follow the state
(R19); the learned record holds at most 8 intervals, and none in IDLE (R8, R22); no sync's work is left in progress; and no realign is arranged for a join out
of ACQUIRING (R173). -/
def CoreInv (c : Core) : Prop :=
  (c.gen.running = generating c.state) ∧ (counting c.state → c.valid = true) ∧ (c.valid = true → c.record.valid = true)
    ∧ (c.remembered.isSome ↔ c.state = .halted) ∧ c.remembered ≠ some .idle ∧ c.remembered ≠ some .halted
    ∧ (∀ st, c.remembered = some st → counting st → c.valid = true)
    ∧ GradeFollowsState c ∧ c.learned.length ≤ Config.learnedIntervals ∧ (c.state = .idle → c.learned = []) ∧ c.syncWork = none
    ∧ (c.state = .acquiring ∨ c.remembered = some .acquiring → c.outRealign ≠ some (c.syncIndex + 1))

/-- The schedule: at most 32 entries in ascending order of due, action ids and order ids each held once, at most 16 spent order ids, each once and none
held by an entry, and ids and the counter from 1 to 255 (R90, R91, R110). -/
def ScheduleInv (c : Schedule) : Prop :=
  c.queue.length ≤ 32 ∧ c.queue.Pairwise (fun a b => a.due.toNat ≤ b.due.toNat) ∧ (c.queue.map Entry.id).Nodup
    ∧ (c.queue.filterMap Entry.orderId).Nodup ∧ c.spent.length ≤ 16 ∧ c.spent.Nodup
    ∧ (∀ o ∈ c.spent, o ∉ c.queue.filterMap Entry.orderId) ∧ (∀ e ∈ c.queue, 1 ≤ e.id ∧ e.id ≤ 255) ∧ 1 ≤ c.nextId ∧ c.nextId ≤ 255

/-- The capture and pulse units: at most 64 records, a gap that stops at 65535 (R116), and no width left on an inactive output (Table 7-3). -/
def LineInv (s : State) : Prop :=
  s.capture.fifo.length ≤ 64 ∧ s.capture.gap ≤ 65535 ∧ ∀ o, (s.pulses.get o).active = false → (s.pulses.get o).width = 0

/-- Marks waiting for a pair whose link has lost SEND: none, or those up to a switch sync, which leaves last (R29, log entry 11). -/
def EndsWithSync (waiting : List Mark) : Prop := waiting = [] ∨ ∃ before m, waiting = before ++ [m] ∧ m.kind ≠ .plain

/-- One link: a receiver that holds nothing unless the link is RECEIVE (R24); on a link that is not SEND no waiting mark but those up to a sync mark (R29,
log entry 11); and a pair that carries a mark for at most 4 ticks (R26). -/
def LinkInv (u : LinkUnit) : Prop :=
  (u.dir ≠ .receive → u.rx = Receiver.reset) ∧ (u.dir ≠ .send → EndsWithSync u.pair.waiting) ∧ u.pair.busy ≤ 4
    ∧ (u.pair.mark = none ↔ u.pair.busy = 0)

end Sys2Proof.Machine
end

