-- ==== Sys2Proof/Certificates/Slice0/Obligations.lean ====
section
/-! DEFINITION. The statements about the block, for the provers: the queue of commands, resets, the channel, each request kind, the lines, the links and
the time core, and the invariants that every step keeps. -/

section StatementsOfTheBlock

open Sys2Proof Sys2Proof.Machine

/-! ## The queue of commands and the idle step -/

/-- A step takes the command at the front of the queue and carries it out on the state with the queue's rest (log entry 1). -/
def Obligations.StepTakesTheFrontCommand : Prop :=
  ∀ (c : Instr) (rest : List Instr) (s : State), s.pending = c :: rest → step s = exec c { s with pending := rest }

/-- On an empty queue one reference tick passes (log entry 1: the model's choice): the counters of ticks rise and stop at 65535 (R4, R42), the running
timers, the acknowledgement timer among them, fall by one, a pair carries its mark one tick on, and the frame being sent loses one tick of line time (R126);
then the transmitter may begin a frame. The events of the part's own that are then due, and no others, stand in the queue, each once, in some order (log
entry 3). -/
def Obligations.IdleStepIsOneTick : Prop :=
  ∀ s u : State, s.pending = [] →
    u = { s with
      core := { s.core with
        ticks := min (s.core.ticks + 1) 65535
        gen := { s.core.gen with elapsed := if counting s.core.state then s.core.gen.elapsed + 1 else s.core.gen.elapsed } }
      passing := []
      caughtUp := none
      edgeAt := none
      links := s.links.map (fun l => { l with
        qual := { l.qual with
          sinceMark := min (l.qual.sinceMark + 1) 65535
          loss := l.qual.loss.map (· - 1)
          hold := l.qual.hold.map (· - 1) }
        pair := { l.pair with busy := l.pair.busy - 1, mark := if l.pair.busy ≤ 1 then none else l.pair.mark } })
      channel := { s.channel with
        frameTimer := s.channel.frameTimer.map (· - 1)
        sending := s.channel.sending.map (fun f => { f with left := f.left - match s.channel.rate with
          | .b115200 => 115200
          | .b230400 => 230400
          | .b460800 => 460800
          | .b921600 => 921600 }) }
      notices := { s.notices with timer := s.notices.timer.map (· - 1) } } →
    ∃ t, step s = .next t ∧ t = { transmit u with pending := t.pending, choices := t.choices }
      ∧ t.pending.Nodup ∧ ∀ c, c ∈ t.pending ↔ EventDue t c

/-- Every command, in every state, answers a next state, and none writes the queue of commands or the count of free choices: the part refuses nothing and
stops at nothing (R135, R164; log entry 24). -/
def Obligations.EveryCommandCompletes : Prop :=
  ∀ (c : Instr) (s : State), ∃ t, exec c s = .next t ∧ t.pending = s.pending ∧ t.choices = s.choices

/-! ## Resets -/

/-- POWER_ON_RESET leaves every block with the values of Tables 1-6, 2-5, 3-6, 4-7, 5-4, 6-5, 7-5, 8-4 and 10-6, the line rate that the straps choose, and
READY with cause POWER waiting; what stands in the places the tables do not name (the generator's counters, the pair) is left unsaid. -/
def Obligations.PowerOnResetGivesTheTablesValues : Prop :=
  ∀ (baud1 baud0 haltn : Level) (ev : Per4 Level) (s : State), ∃ t, exec (.powerOnReset baud1 baud0 haltn ev) s = .next t
    ∧ t.core = { time := 0, valid := false, state := .idle, takeover := false, syncIndex := 0, steps := 0, ticks := 0,
                 record := { final := 0, valid := false }, learned := [], gen := t.core.gen, holdoverCount := 0, realignPending := false,
                 outRealign := none, remembered := none, grade := 4, hops := 15, syncWork := none }
    ∧ t.core.gen.running = false ∧ t.passing = [] ∧ t.caughtUp = none ∧ t.edgeAt = none
    ∧ t.halt = { policy := .ignore, level := haltn }
    ∧ (∀ l, link l t = { dir := .off, qual := (link l t).qual, rx := (link l t).rx, offset := 0, holdoff := 10, pair := (link l t).pair })
    ∧ (∀ l, (link l t).rx = { msg := [], discard := false, annCur := none, annLast := none, qualCur := none, qualLast := none })
    ∧ (∀ l, (link l t).qual = { state := .off, good := 0, bad := 0, phase := none, lastInterval := none, intervalSps := none,
                                announceSeen := false, sinceMark := (link l t).qual.sinceMark, loss := none, hold := none, badSteps := 0,
                                syncFaults := 0, losses := 0 })
    ∧ t.outSet = none
    ∧ t.plans = { records := Per4.all none, active := none, fallback := [], held := none }
    ∧ t.sel = { source := none, joined := false }
    ∧ t.sched = { queue := [], spent := [], nextId := 1 }
    ∧ t.capture = { edges := Per4.all .none, levels := ev, fifo := [], gap := 0 }
    ∧ t.pulses = Per4.all { polarity := .activeHigh, active := false, width := 0 }
    ∧ t.channel = { rate := t.channel.rate, held := [], frameTimer := none, requests := [], handling := none, responses := [], sending := none }
    ∧ (t.channel.rate = match baud1, baud0 with
        | .low, .low => .b115200
        | .low, .high => .b230400
        | .high, .low => .b460800
        | .high, .high => .b921600)
    ∧ t.notices = { unsent := [.ready .power], window := [], resend := [], nextSeq := 0, retry := 0, timer := none, liveness := .live,
                    timeout := 50, mask := 0x7F }

/-- The restart takes effect when the last byte of RESTART's OK response has left, named as RESTART_TAKES_EFFECT or as that frame's TRANSMIT_DONE (log
entry 16): the plan records, the fallback list, the link settings, edge choices, judged levels, polarities, the halt policy, the notice settings and the
line rate are kept, every other field takes its RESTART value, and READY with cause RESTART waits (R138, R143, R165). -/
def Obligations.RestartTakesEffectKeepsTheSettings : Prop :=
  ∀ (r : Response) (s : State), s.channel.sending = some { frame := .response r, left := 0 } → r.kind = 0x82 → r.status = .ok →
    s.channel.handling.isSome → s.notices.mask.getLsbD 0 = true →
    ∃ t, exec .restartTakesEffect s = .next t ∧ exec .transmitDone s = .next t
      ∧ t.core = { time := 0, valid := false, state := .idle, takeover := false, syncIndex := 0, steps := 0, ticks := 0,
                   record := { final := 0, valid := false }, learned := [], gen := t.core.gen, holdoverCount := 0, realignPending := false,
                   outRealign := none, remembered := none, grade := 4, hops := 15, syncWork := none }
      ∧ t.core.gen.running = false ∧ t.passing = [] ∧ t.caughtUp = none ∧ t.edgeAt = none
      ∧ t.halt = s.halt
      ∧ (∀ l, link l t = { dir := .off, qual := (link l t).qual, rx := (link l t).rx, offset := (link l s).offset,
                           holdoff := (link l s).holdoff, pair := (link l t).pair })
      ∧ (∀ l, (link l t).rx = { msg := [], discard := false, annCur := none, annLast := none, qualCur := none, qualLast := none })
      ∧ (∀ l, (link l t).qual = { state := .off, good := 0, bad := 0, phase := none, lastInterval := none, intervalSps := none,
                                  announceSeen := false, sinceMark := (link l t).qual.sinceMark, loss := none, hold := none, badSteps := 0,
                                  syncFaults := 0, losses := 0 })
      ∧ t.outSet = none
      ∧ t.plans = { records := s.plans.records, active := none, fallback := s.plans.fallback, held := none }
      ∧ t.sel = { source := none, joined := false }
      ∧ t.sched = { queue := [], spent := [], nextId := 1 }
      ∧ t.capture = { edges := s.capture.edges, levels := s.capture.levels, fifo := [], gap := 0 }
      ∧ (∀ o, t.pulses.get o = { polarity := (s.pulses.get o).polarity, active := false, width := 0 })
      ∧ t.channel = { rate := s.channel.rate, held := [], frameTimer := none, requests := [], handling := none, responses := [],
                      sending := none }
      ∧ t.notices = { unsent := [.ready .restart], window := [], resend := [], nextSeq := 0, retry := 0, timer := none, liveness := .live,
                      timeout := s.notices.timeout, mask := s.notices.mask }

/-! ## The transmitter and the notice unit's timer -/

/-- The transmitter's choice (R137, R166): a busy line begins nothing; an idle line begins the ready response before any notice; without one, while LIVE,
the oldest of the resend list, else, with fewer than 4 in the window, the oldest unsent notice, which takes the next sequence number; else nothing. The
acknowledgement timer is restarted at every send, in units of 10 ms that are ticks of the nominal clock (log entry 21: DEDUCED), the frame takes its line time in
ticks times baud (log entry 18: the model's choice), and the entries that a new ACTIONS notice lists record its number (R108). -/
def Obligations.ReadyResponseGoesBeforeAnyNotice : Prop :=
  ∀ s : State,
    (s.channel.sending.isSome → transmit s = s)
    ∧ (s.channel.sending = none →
        (∀ r rest, s.channel.responses = .filled r :: rest →
          transmit s = { s with channel := sendFrame (.response r) s.channel })
        ∧ ((∀ r rest, s.channel.responses ≠ .filled r :: rest) →
            (s.notices.liveness = .quiet → transmit s = s)
            ∧ (s.notices.liveness = .live → ∀ q qs n, s.notices.resend = q :: qs → s.notices.window.find? (fun m => m.seq == q) = some n →
                transmit s = { s with
                  channel := sendFrame (.notice n) s.channel
                  notices := { s.notices with resend := qs, timer := some (s.notices.timeout * 1250000) } })
            ∧ (s.notices.liveness = .live → s.notices.resend = [] → 4 ≤ s.notices.window.length ∨ s.notices.unsent = [] → transmit s = s)
            ∧ (s.notices.liveness = .live → s.notices.resend = [] → s.notices.window.length < 4 → ∀ n ns, s.notices.unsent = n :: ns →
                transmit s = { s with
                  channel := sendFrame (.notice { seq := s.notices.nextSeq, notice := n }) s.channel
                  notices := { s.notices with
                    unsent := ns, window := s.notices.window ++ [{ seq := s.notices.nextSeq, notice := n }],
                    nextSeq := s.notices.nextSeq + 1, timer := some (s.notices.timeout * 1250000) }
                  sched := match n with
                    | .actions items => { s.sched with queue := s.sched.queue.map (fun e =>
                        if e.id ∈ items.map ActionItem.id then { e with reportedIn := some s.notices.nextSeq } else e) }
                    | _ => s.sched })))

/-- TRANSMIT_DONE on the last byte of a frame frees the line, and with a response its slot, the oldest, leaves the list; the transmitter then chooses
(R136, R137). RESTART's response, on which a restart waits, is the one exception. -/
def Obligations.TransmitDoneFreesTheLine : Prop :=
  ∀ (s : State) (r : Response) (n : SentNotice),
    (s.channel.sending = some { frame := .response r, left := 0 } → ¬(s.channel.handling.isSome ∧ r.kind = 0x82 ∧ r.status = .ok) →
      exec .transmitDone s = .next (transmit { s with channel := { s.channel with sending := none, responses := s.channel.responses.tail } }))
    ∧ (s.channel.sending = some { frame := .notice n, left := 0 } →
      exec .transmitDone s = .next (transmit { s with channel := { s.channel with sending := none } }))

/-- ACK_TIMER_EXPIRY (R168): the retry count rises by one; below 3 the resend list becomes the whole window, in the order sent, and at 3 the channel is QUIET
with nothing to resend; the timer is not restarted at the expiry. -/
def Obligations.AckTimerExpiryResendsOrGoesQuiet : Prop :=
  ∀ s : State, s.notices.timer = some 0 →
    (s.notices.retry + 1 < 3 → exec .ackTimerExpiry s = .next (transmit { s with notices := { s.notices with
      retry := s.notices.retry + 1, resend := s.notices.window.map SentNotice.seq, timer := none } }))
    ∧ (s.notices.retry + 1 = 3 → exec .ackTimerExpiry s = .next (transmit { s with notices := { s.notices with
      retry := 3, liveness := .quiet, resend := [], timer := none } }))

/-! ## The frame receiver -/

/-- In HUNT a byte other than 0x5B is dropped, and 0x5B becomes the first held byte and starts the 20 ms frame timer (R129, R130), 2500000 ticks of the nominal
clock (log entry 21: DEDUCED). A frame that fails, by its CRC-16 at the byte that completes it or by the frame timer, is counted once, as CHANNEL_CRC or
CHANNEL_FRAMING, and its held bytes after the START are examined again in order as if they had just arrived (R130, R132). The last clauses say what the examination
of bytes does: a byte other than 0x5B is dropped and the bytes after it are examined; a whole frame whose CRC-16 matches is reported and handed on (R133, R169), and
the bytes after it are examined; one whose CRC-16 does not match is counted, and the bytes after its START are examined; and with no byte left the receiver is in
HUNT. The bytes that a START only begins, and an impossible LEN, are LenOutOfRangeIsFraming's. -/
def Obligations.HuntStartsFramesAndExaminesFailedOnes : Prop :=
  (∀ s : State, s.channel.held = [] →
      (∀ b, b ≠ 0x5B → exec (.channelByte b) s = .next (transmit { s with channel := { s.channel with held := [], frameTimer := none } }))
      ∧ exec (.channelByte 0x5B) s = .next (transmit { s with channel := { s.channel with held := [0x5B], frameTimer := some 2500000 } }))
  ∧ ((∀ (s : State) (b len : Byte) (rest : List Byte), s.channel.held ++ [b] = 0x5B :: len :: rest → 2 ≤ len.toNat → len.toNat ≤ 242 →
      rest.length = len.toNat + 2 →
      (crc16 (len :: rest.take len.toNat)).toNat ≠ (rest.getD len.toNat 0).toNat + 256 * (rest.getD (len.toNat + 1) 0).toNat →
      exec (.channelByte b) s = .next (transmit (takeBytes (len :: rest) (raiseFault .channelCrc s))))
    ∧ (∀ s : State, s.channel.frameTimer = some 0 →
      exec .frameTimerExpiry s = .next (transmit (takeBytes s.channel.held.tail (raiseFault .channelFraming s)))))
  ∧ (∀ (b : Byte) (rest : List Byte) (s : State), b ≠ 0x5B → takeBytes (b :: rest) s = takeBytes rest s)
  ∧ (∀ s : State, takeBytes [] s = { s with channel := { s.channel with held := [], frameTimer := none } })
  ∧ (∀ (len : Byte) (body rest : List Byte) (s : State), 2 ≤ len.toNat → len.toNat ≤ 242 → body.length = len.toNat + 2 →
      (crc16 (len :: body.take len.toNat)).toNat ≠ (body.getD len.toNat 0).toNat + 256 * (body.getD (len.toNat + 1) 0).toNat →
      takeBytes (0x5B :: len :: (body ++ rest)) s = takeBytes (len :: (body ++ rest)) (raiseFault .channelCrc s))
  ∧ (∀ (tag kind : Byte) (payload rest : List Byte) (s u : State), payload.length ≤ 240 →
      u = { s with notices := match s.notices.liveness with
        | .live => { s.notices with retry := 0 }
        | .quiet => { s.notices with retry := 0, liveness := .live, resend := s.notices.window.map SentNotice.seq } } →
      (6 ≤ s.channel.responses.length ∨ (s.channel.handling.isSome ∧ 4 ≤ s.channel.requests.length) →
        takeBytes (frame tag kind payload ++ rest) s = takeBytes rest (raiseFault .channelOverrun u))
      ∧ (s.channel.responses.length < 6 → s.channel.requests.length < 4 →
        takeBytes (frame tag kind payload ++ rest) s = takeBytes rest { u with channel := { u.channel with
          requests := s.channel.requests ++ [{ tag := tag, kind := kind, payload := payload }], responses := s.channel.responses ++ [.reserved] } })
      ∧ (s.channel.responses.length < 6 → s.channel.handling = none → 4 ≤ s.channel.requests.length →
        takeBytes (frame tag kind payload ++ rest) s = takeBytes rest { u with channel := { u.channel with
          responses := s.channel.responses ++ [.filled { tag := tag, kind := responseKind kind, status := .busy, fields := [] }] } }))

/-- R131: a LEN below 2 or above 242 stops the frame timer, counts one CHANNEL_FRAMING and leaves the receiver in HUNT with the LEN dropped; a LEN of 2 to
242 is accepted and collecting goes on, with the frame timer running afresh (R129, R130), 2500000 ticks of the nominal clock (log entry 21: DEDUCED); and each byte after it, before the last one of
the frame, is added to the held bytes and restarts that timer. The same holds when the bytes are held bytes examined again: hunting goes on at the LEN itself. -/
def Obligations.LenOutOfRangeIsFraming : Prop :=
  (∀ (s : State) (len : Byte), s.channel.held = [0x5B] →
    (len.toNat < 2 ∨ 242 < len.toNat →
      exec (.channelByte len) s =
        .next (transmit (raiseFault .channelFraming { s with channel := { s.channel with held := [], frameTimer := none } })))
    ∧ (2 ≤ len.toNat → len.toNat ≤ 242 →
      exec (.channelByte len) s = .next (transmit { s with channel := { s.channel with held := [0x5B, len], frameTimer := some 2500000 } })))
  ∧ (∀ (s : State) (b len : Byte) (rest : List Byte), s.channel.held = 0x5B :: len :: rest → 2 ≤ len.toNat → len.toNat ≤ 242 →
    rest.length + 1 < len.toNat + 2 →
    exec (.channelByte b) s = .next (transmit { s with channel := { s.channel with held := s.channel.held ++ [b], frameTimer := some 2500000 } }))
  ∧ (∀ (s : State) (len : Byte) (rest : List Byte),
    (len.toNat < 2 ∨ 242 < len.toNat → takeBytes (0x5B :: len :: rest) s = takeBytes (len :: rest) (raiseFault .channelFraming s))
    ∧ (2 ≤ len.toNat → len.toNat ≤ 242 → rest.length < len.toNat + 2 →
      takeBytes (0x5B :: len :: rest) s = { s with channel := { s.channel with held := 0x5B :: len :: rest, frameTimer := some 2500000 } }))

/-- The byte that completes a frame whose CRC-16 is that of Table 12-2 hands a request on: the valid frame is reported (R169), then the request is discarded
with CHANNEL_OVERRUN, joins the queue with its reserved slot, or finds the queue full and has its slot filled with BUSY (R132, R133). The transmitter then chooses
(R137): on an idle line the frame that ends QUIET has the first resend begun before its own request is answered (log entry 30: DEDUCED, against the order that
Tables 10-5 and 11-7 show). -/
def Obligations.WholeFrameIsTakenAsARequest : Prop :=
  ∀ (tag kind b : Byte) (payload : List Byte) (s u : State), payload.length ≤ 240 → s.channel.held ++ [b] = frame tag kind payload →
    u = { s with
      channel := { s.channel with held := [], frameTimer := none }
      notices := match s.notices.liveness with
        | .live => { s.notices with retry := 0 }
        | .quiet => { s.notices with retry := 0, liveness := .live, resend := s.notices.window.map SentNotice.seq } } →
    (6 ≤ s.channel.responses.length ∨ (s.channel.handling.isSome ∧ 4 ≤ s.channel.requests.length) →
      exec (.channelByte b) s = .next (transmit (raiseFault .channelOverrun u)))
    ∧ (s.channel.responses.length < 6 → s.channel.requests.length < 4 →
      exec (.channelByte b) s = .next (transmit { u with channel := { u.channel with
        requests := s.channel.requests ++ [{ tag := tag, kind := kind, payload := payload }], responses := s.channel.responses ++ [.reserved] } }))
    ∧ (s.channel.responses.length < 6 → s.channel.handling = none → 4 ≤ s.channel.requests.length →
      exec (.channelByte b) s = .next (transmit { u with channel := { u.channel with
        responses := s.channel.responses ++ [.filled { tag := tag, kind := responseKind kind, status := .busy, fields := [] }] } }))

/-! ## Raising notices -/

/-- A raise of a disabled kind is not made; a raise whose key has an unsent notice is folded into it, which keeps its place; any other is placed at the young
end (R162). How each kind folds is R163's Table 10-3. -/
def Obligations.RaiseIsFoldedIntoTheUnsentNotice : Prop :=
  (∀ (n : Notice) (u : NoticeUnit),
    (u.mask.getLsbD (maskBit (noticeKey n)) = false → raised n u = u)
    ∧ (u.mask.getLsbD (maskBit (noticeKey n)) = true →
      ((∀ m ∈ u.unsent, noticeKey m ≠ noticeKey n) → raised n u = { u with unsent := u.unsent ++ [n] })
      ∧ (∀ before m after, u.unsent = before ++ m :: after → noticeKey m = noticeKey n → (∀ x ∈ before, noticeKey x ≠ noticeKey n) →
          raised n u = { u with unsent := before ++ coalesce m n :: after })))
  ∧ (∀ a p c i a' p' c' i', coalesce (.plan a p c i) (.plan a' p' c' i') = .plan a' p c' i')
  ∧ (∀ st pr src g h j i k st' pr' src' g' h' j' i' k', coalesce (.time st pr src g h j i k) (.time st' pr' src' g' h' j' i' k')
      = .time st' pr src' g' h' (if j'.isSome then j' else j) i' (min (k + 1) 255))
  ∧ (∀ x y, coalesce (.actions x) (.actions y) = .actions (x ++ y))
  ∧ (∀ x y, coalesce (.capture x) (.capture y) = .capture y)
  ∧ (∀ l st pr c k st' pr' c' k', coalesce (.link l st pr c k) (.link l st' pr' c' k') = .link l st' pr c' (min (k + 1) 255))
  ∧ (∀ c es, (∀ e ∈ es, e.1 ≠ c) → coalesce (.fault es) (.fault [(c, 1)]) = .fault (es ++ [(c, 1)]))
  ∧ (∀ c k before after, (∀ e ∈ before, e.1 ≠ c) →
      coalesce (.fault (before ++ (c, k) :: after)) (.fault [(c, 1)]) = .fault (before ++ (c, min (k + 1) 255) :: after))

/-! ## Requests: the general checks, PING and RESTART -/

/-- A request of a kind that the part does not define, 0 or above 0x14, is answered UNKNOWN_KIND and has no other effect; a defined kind with a payload
length that it does not allow is answered BAD_LENGTH and has no other effect (R128, R135, Table 9-5). -/
def Obligations.GeneralChecksAnswerKindAndLength : Prop :=
  ∀ (tag kind : Byte) (payload : List Byte) (s : State), TakesRequest tag kind payload s →
    (kind.toNat = 0 ∨ 0x14 < kind.toNat → ∀ r : Response,
      r = { tag := tag, kind := if 1 ≤ kind.toNat ∧ kind.toNat ≤ 0x3F then kind + 0x80 else 0x80, status := .unknownKind, fields := [] } →
      exec .undefinedRequest s = .next { s with channel := respond r s.channel })
    ∧ (1 ≤ kind.toNat → kind.toNat ≤ 0x14 → payload.length ∉ allowedLengths kind →
      exec (requestCommand kind) s = .next (answerWith tag kind .badLength [] s))

/-- PING is answered OK in every state with the part code 0x4180, revision 1, 6 links, 4 plans, 32 schedule slots and 64 capture records, and changes no
other state (R142). -/
def Obligations.PingReportsThePart : Prop :=
  ∀ (tag : Byte) (s : State), TakesRequest tag 0x01 [] s →
    exec .ping s = .next (answerWith tag 0x01 .ok [0x80, 0x41, 1, 6, 4, 32, 64] s)

/-- RESTART is answered OK in every state and held by the handler; while a restart is pending no request of any kind is taken, and nothing else has changed
(R138, R143). -/
def Obligations.RestartIsAnsweredAndHeld : Prop :=
  (∀ (tag : Byte) (s : State), TakesRequest tag 0x02 [] s →
    exec .restart s = .next (answerWith tag 0x02 .ok []
      { s with channel := { s.channel with handling := some { tag := tag, kind := 0x02, payload := [] } } }))
  ∧ (∀ (kind : Byte) (s : State), s.channel.handling.isSome → exec (requestCommand kind) s = .next s)

/-! ## Requests: plans and the fallback list -/

/-- PLAN_WRITE refuses an index above 3 with BAD_VALUE, the active plan with PLAN_ACTIVE and a record that fails validation with PLAN_INVALID and the field's
number, in that order; otherwise the record is replaced whole and the answer is OK (R58, R144). -/
def Obligations.PlanWriteReplacesTheRecord : Prop :=
  ∀ (tag i : Byte) (r : List Byte) (s : State), r.length = 23 → TakesRequest tag 0x03 (i :: r) s →
    (3 < i.toNat → exec .planWrite s = .next (answerWith tag 0x03 .badValue [] s))
    ∧ (∀ n : PlanNo, i.toNat = n.val →
      (s.plans.active = some n → exec .planWrite s = .next (answerWith tag 0x03 .planActive [] s))
      ∧ (s.plans.active ≠ some n →
        (∀ f, planOfBytes r = .error f → exec .planWrite s = .next (answerWith tag 0x03 .planInvalid [BitVec.ofNat 8 f] s))
        ∧ (∀ p, planOfBytes r = .ok p → exec .planWrite s = .next (answerWith tag 0x03 .ok []
            { s with plans := { s.plans with records := s.plans.records.set n (some p) } }))))

/-- A plan record is validated field by field: it is accepted exactly when all twelve fields pass, and else the number is that of the first field that fails
(R61, R62, Tables 4-3 and 12-6). The stored record holds the fields of an accepted record, each from the bytes that Table 12-6 gives it and by the codes of
Table 12-1, and its 23 bytes validate to the same record (R145). -/
def Obligations.PlanValidationNamesTheFirstFailingField : Prop :=
  (∀ r : List Byte, r.length = 23 →
      ((∃ p, planOfBytes r = .ok p) ↔ ∀ n, PlanFieldPasses r n)
      ∧ (∀ n, planOfBytes r = .error n ↔ ¬PlanFieldPasses r n ∧ ∀ m < n, PlanFieldPasses r m))
  ∧ (∀ (r : List Byte) (p : Plan), r.length = 23 → planOfBytes r = .ok p → (planBytes p).length = 23 ∧ planOfBytes (planBytes p) = .ok p)
  ∧ (∀ (r : List Byte) (p : Plan), r.length = 23 → planOfBytes r = .ok p →
      (byteAt r 0 = match p.role with | .master => 0 | .backup => 1 | .follower => 2)
      ∧ (∀ l : LinkNo, byteAt r (1 + l.val) = match p.dirs.get l with | .off => 0 | .send => 1 | .receive => 2)
      ∧ p.cands.map Fin.val = ((r.drop 8).take (byteAt r 7)).map BitVec.toNat
      ∧ (byteAt r 11 = if p.revertive then 1 else 0) ∧ p.worst = byteAt r 12 ∧ p.nominal = byteAt r 13 + 256 * byteAt r 14
      ∧ p.tolerance = byteAt r 15 ∧ p.validity = byteAt r 16 ∧ p.grace = byteAt r 17 ∧ p.sps = byteAt r 18 + 256 * byteAt r 19
      ∧ (byteAt r 20 = match p.policy with | .report => 0 | .resync => 1) ∧ p.limit = byteAt r 21 + 256 * byteAt r 22)

/-- PLAN_READ refuses an index above 3 with BAD_VALUE and an EMPTY plan with PLAN_EMPTY; otherwise it answers OK with the index, the active flag and the
record's 23 bytes, and changes nothing (R59, R145). -/
def Obligations.PlanReadReturnsTheRecord : Prop :=
  ∀ (tag i : Byte) (s : State), TakesRequest tag 0x04 [i] s →
    (3 < i.toNat → exec .planRead s = .next (answerWith tag 0x04 .badValue [] s))
    ∧ (∀ n : PlanNo, i.toNat = n.val →
      (s.plans.records.get n = none → exec .planRead s = .next (answerWith tag 0x04 .planEmpty [] s))
      ∧ (∀ p, s.plans.records.get n = some p →
        exec .planRead s = .next (answerWith tag 0x04 .ok (i :: (if s.plans.active = some n then 1 else 0) :: planBytes p) s)))

/-- PLAN_CLEAR refuses an index above 3 with BAD_VALUE and the active plan with PLAN_ACTIVE; otherwise the plan becomes EMPTY and leaves the fallback list,
whose other indices keep their order (R59, R78, R146). -/
def Obligations.PlanClearEmptiesThePlan : Prop :=
  ∀ (tag i : Byte) (s : State), TakesRequest tag 0x05 [i] s →
    (3 < i.toNat → exec .planClear s = .next (answerWith tag 0x05 .badValue [] s))
    ∧ (∀ n : PlanNo, i.toNat = n.val →
      (s.plans.active = some n → exec .planClear s = .next (answerWith tag 0x05 .planActive [] s))
      ∧ (s.plans.active ≠ some n → exec .planClear s = .next (answerWith tag 0x05 .ok []
          { s with plans := { s.plans with
              records := s.plans.records.set n none, fallback := s.plans.fallback.filter (fun m => m ≠ n) } })))

/-- FALLBACK_SET of more than 3 bytes is refused with BAD_LENGTH. One of 0 to 3 indices is refused with BAD_VALUE when one is above 3, one is present twice,
or one is the active plan; otherwise the list is replaced whole and returned with its count. FALLBACK_READ is answered OK in every state with the list's count
and its indices in order, and changes nothing (R77, R147). -/
def Obligations.FallbackSetReplacesTheList : Prop :=
  (∀ (tag : Byte) (payload : List Byte) (s : State), TakesRequest tag 0x06 payload s →
    (3 < payload.length → exec .fallbackSet s = .next (answerWith tag 0x06 .badLength [] s))
    ∧ (payload.length ≤ 3 → (∃ b ∈ payload, 3 < b.toNat) → exec .fallbackSet s = .next (answerWith tag 0x06 .badValue [] s))
    ∧ (∀ l : List PlanNo, l.length ≤ 3 → payload = l.map (fun n => BitVec.ofNat 8 n.val) →
      (¬l.Nodup ∨ (∃ n ∈ l, s.plans.active = some n) → exec .fallbackSet s = .next (answerWith tag 0x06 .badValue [] s))
      ∧ (l.Nodup → (∀ n ∈ l, s.plans.active ≠ some n) →
        exec .fallbackSet s = .next (answerWith tag 0x06 .ok (BitVec.ofNat 8 l.length :: payload) { s with plans := { s.plans with fallback := l } }))))
  ∧ (∀ (tag : Byte) (s : State), TakesRequest tag 0x07 [] s → exec .fallbackRead s = .next (answerWith tag 0x07 .ok
    (BitVec.ofNat 8 s.plans.fallback.length :: s.plans.fallback.map (fun n => BitVec.ofNat 8 n.val)) s))

/-! ## Requests: reading -/

/-- TIME_READ and ACTION_LIST only read: they answer OK in every state with the fields of Table 9-3 and R156, built from the state as it stands, and change
nothing; a start position above 31 is refused with BAD_VALUE (R92, R141, R153, R156). The last clause reads a listed entry's fields back from its 27 bytes, by
the offsets of Table 12-9, the codes of Table 12-1 and the parameters of Table 12-7 (R178). -/
def Obligations.ReadingRequestsChangeNothing : Prop :=
  (∀ (tag : Byte) (s : State), TakesRequest tag 0x0D [] s → exec .timeRead s = .next (answerWith tag 0x0D .ok
    (u64 s.core.time ++ u8 (codeFlag s.core.valid) ++ u8 (codeCoreState s.core.state) ++ u8 (codeFlag s.core.takeover)
      ++ u8 (match s.core.remembered with | some st => codeCoreState st | none => 0xFF) ++ u32 s.core.syncIndex.toNat ++ u32 s.core.steps
      ++ u8 (match s.sel.source with | some l => l.val | none => 0xFF) ++ u8 (codeFlag s.sel.joined) ++ u8 s.core.grade ++ u8 s.core.hops
      ++ u8 (match s.plans.active with | some n => n.val | none => 0xFF)) s))
  ∧ (∀ (tag i : Byte) (s : State), TakesRequest tag 0x10 [i] s →
    (31 < i.toNat → exec .actionList s = .next (answerWith tag 0x10 .badValue [] s))
    ∧ (i.toNat ≤ 31 → exec .actionList s = .next (answerWith tag 0x10 .ok
      (u8 s.sched.queue.length ++ u8 ((s.sched.queue.drop i.toNat).take 8).length
        ++ ((s.sched.queue.drop i.toNat).take 8).flatMap entryBytes) s)))
  ∧ (∀ (e : Entry) (b : List Byte), b = entryBytes e →
    b.length = 27 ∧ (e.id ≤ 255 → byteAt b 0 = e.id) ∧ timeAt b 2 = e.due ∧ (byteAt b 10 = if e.outcome = none then 0 else 1)
    ∧ (byteAt b 11 = match e.outcome with
        | none => 0
        | some .done => 1
        | some .late => 2
        | some .superseded => 3
        | some .cancelled => 4
        | some .flushed => 5
        | some .refused => 6)
    ∧ (byteAt b 12 = match e.origin with | .channel => 0x80 | .link l => l.val)
    ∧ (numAt b 13 2 = match e.orderId with | some o => o.toNat | none => 0) ∧ (e.sends ≤ 255 → byteAt b 15 = e.sends)
    ∧ (byteAt b 16 = if e.reportedIn = none then 0 else 1) ∧ (numAt b 17 2 = match e.reportedIn with | some q => q.toNat | none => 0)
    ∧ (∀ v, e.action = .load v → byteAt b 1 = 1 ∧ timeAt b 19 = v)
    ∧ (∀ n, e.action = .switch n → byteAt b 1 = 2 ∧ byteAt b 19 = n.val ∧ b.drop 20 = List.replicate 7 0)
    ∧ (∀ out w q, e.action = .pulse out w q → byteAt b 1 = 3 ∧ byteAt b 19 = out.val ∧ (w ≤ 65535 → numAt b 20 2 = w)
        ∧ (q ≤ 65535 → numAt b 22 2 = q) ∧ b.drop 24 = List.replicate 3 0))

/-- LINK_READ refuses a link above 5 with BAD_VALUE; otherwise it answers OK with the fields of Table 9-2 in the layout of Table 12-8, the announce and the
QUALITY as received or their place in zeros, and changes nothing (R149, R175, R178). -/
def Obligations.LinkReadReturnsTheLink : Prop :=
  ∀ (tag i : Byte) (s : State), TakesRequest tag 0x09 [i] s →
    (5 < i.toNat → exec .linkRead s = .next (answerWith tag 0x09 .badValue [] s))
    ∧ (∀ (l : LinkNo) (u : LinkUnit), i.toNat = l.val → link l s = u → exec .linkRead s = .next (answerWith tag 0x09 .ok
      (u8 l.val ++ u8 (codeDirection u.dir) ++ u8 (codeQualState u.qual.state) ++ u8 u.qual.good ++ u8 u.qual.bad
        ++ (match u.qual.phase with | some n => u8 1 ++ u16 n | none => [0, 0, 0])
        ++ (match u.qual.lastInterval with | some n => u8 1 ++ u16 n | none => [0, 0, 0])
        ++ (match latestAnnounce u.rx with | some a => u8 1 ++ u64 a.time ++ u8 a.plan.val | none => [0, 0, 0, 0, 0, 0, 0, 0, 0, 0])
        ++ (match latestQuality u.rx with
            | some q => u8 1 ++ u8 q.grade ++ u8 q.hops ++ u8 (codeFlag q.takeover) ++ u8 (codeCoreState q.core)
            | none => [0, 0, 0, 0, 0])
        ++ u16 u.qual.badSteps ++ u16 u.qual.syncFaults ++ u16 u.qual.losses ++ [u.offset, u.holdoff]) s))

/-- CAPTURE_READ is answered OK in every state: up to 8 of the oldest records leave the FIFO and are returned, oldest first, with the number still held and
the pending gap count, and nothing else changes (R119, R158). The last clause reads a record's fields back from its 16 bytes, by the offsets of Table 12-10 and
the codes of Table 12-1 (R178). -/
def Obligations.CaptureReadTakesTheOldestRecords : Prop :=
  (∀ (tag : Byte) (s : State) (returned held : List CaptureRecord), TakesRequest tag 0x12 [] s → s.capture.fifo = returned ++ held →
    returned.length = min 8 s.capture.fifo.length →
    exec .captureRead s = .next (answerWith tag 0x12 .ok
      (u8 returned.length ++ returned.flatMap captureBytes ++ u8 held.length ++ u16 s.capture.gap) { s with capture := { s.capture with fifo := held } }))
  ∧ (∀ (r : CaptureRecord) (b : List Byte), b = captureBytes r →
    b.length = 16 ∧ byteAt b 0 = r.line.val ∧ (byteAt b 1 = match r.edge with | .rising => 1 | .falling => 2) ∧ timeAt b 2 = r.time
    ∧ (r.ticks ≤ 65535 → numAt b 10 2 = r.ticks)
    ∧ (byteAt b 12 = match r.state with
        | .idle => 0
        | .acquiring => 1
        | .locked => 2
        | .holdover => 3
        | .free => 4
        | .master => 5
        | .halted => 6)
    ∧ (byteAt b 13 = if r.valid then 1 else 0) ∧ (r.gap ≤ 65535 → numAt b 14 2 = r.gap))

/-! ## Requests: settings -/

/-- LINK_SET refuses a link above 5 with BAD_VALUE; otherwise it writes the offset and the hold-off of that link together, whatever its direction, returns
what is now in force, and changes nothing else, no running timer included (R38, R39, R148). -/
def Obligations.LinkSetWritesBothSettings : Prop :=
  ∀ (tag i offset holdoff : Byte) (s : State), TakesRequest tag 0x08 [i, offset, holdoff] s →
    (5 < i.toNat → exec .linkSet s = .next (answerWith tag 0x08 .badValue [] s))
    ∧ (∀ l : LinkNo, i.toNat = l.val → exec .linkSet s = .next (answerWith tag 0x08 .ok [i, offset, holdoff]
        { s with links := s.links.set l { s.links.get l with offset := offset, holdoff := holdoff } }))

/-- LINE_SET is refused with BAD_VALUE when an edge choice is above 3 or a polarity above 1, and changes no setting then; otherwise all eight settings are
taken at once, with every active flag and remaining width kept, and the response shows them with the FIFO's fill and the gap count (R120, R124, R157). -/
def Obligations.LineSetTakesAllEightSettings : Prop :=
  ∀ (tag : Byte) (b : List Byte) (s : State), b.length = 8 → TakesRequest tag 0x11 b s →
    ((∃ i < 4, 3 < byteAt b i) ∨ (∃ i < 4, 1 < byteAt b (4 + i)) → exec .lineSet s = .next (answerWith tag 0x11 .badValue [] s))
    ∧ (∀ (e : Per4 EdgeChoice) (q : Per4 Polarity),
      b = e.toList.map (fun x => BitVec.ofNat 8 (codeEdgeChoice x)) ++ q.toList.map (fun x => BitVec.ofNat 8 (codePolarity x)) →
      exec .lineSet s = .next (answerWith tag 0x11 .ok
        (b ++ s.pulses.toList.flatMap (fun p => u8 (codeFlag p.active) ++ u16 p.width) ++ u8 s.capture.fifo.length ++ u16 s.capture.gap)
        { s with
          capture := { s.capture with edges := e }
          pulses := ⟨{ s.pulses.a0 with polarity := q.a0 }, { s.pulses.a1 with polarity := q.a1 }, { s.pulses.a2 with polarity := q.a2 },
                     { s.pulses.a3 with polarity := q.a3 }⟩ }))

/-- NOTICE_SET is refused with BAD_VALUE for a timeout below 5 and for a mask that disables READY (bit 0) or ACTIONS (bit 3) or sets bit 7; otherwise both
settings are taken together and returned, and a running timer and the waiting notices stand (R161, R177). -/
def Obligations.NoticeSetTakesBothSettings : Prop :=
  ∀ (tag timeout mask : Byte) (s : State), TakesRequest tag 0x0A [timeout, mask] s →
    (timeout.toNat < 5 ∨ mask.getLsbD 0 = false ∨ mask.getLsbD 3 = false ∨ mask.getLsbD 7 = true →
      exec .noticeSet s = .next (answerWith tag 0x0A .badValue [] s))
    ∧ (5 ≤ timeout.toNat → mask.getLsbD 0 = true → mask.getLsbD 3 = true → mask.getLsbD 7 = false →
      exec .noticeSet s = .next (answerWith tag 0x0A .ok [timeout, mask]
        { s with notices := { s.notices with timeout := timeout.toNat, mask := mask } }))

/-- NOTICE_ACK of a number that the window does not hold is answered NOT_FOUND and changes nothing; otherwise every notice up to and including that one leaves
the window and the resend list, the schedule releases what the ACTIONS notices among them carried, oldest first, and the timer stops on an empty window and
is restarted otherwise, in units of 10 ms that are ticks of the nominal clock (log entry 21: DEDUCED); in QUIET it stays stopped (R160, R167, R168; log entry 25). The second clause says what a notice releases (R109, R110): only an ACTIONS
notice does, and of its items the entries that record its number leave the queue, and their order ids, in the order of the items, enter the spent list, whose
oldest ids leave beyond 16. Its premise on the schedule is an invariant of its own. -/
def Obligations.NoticeAckRemovesUpToItsNumber : Prop :=
  (∀ (tag : Byte) (q : SeqNo) (s : State), TakesRequest tag 0x14 (u16 q.toNat) s →
    ((∀ n ∈ s.notices.window, n.seq ≠ q) → exec .noticeAck s = .next (answerWith tag 0x14 .notFound [] s))
    ∧ (∀ (before left : List SentNotice) (n : SentNotice), s.notices.window = before ++ n :: left → n.seq = q → (∀ m ∈ before, m.seq ≠ q) →
      exec .noticeAck s = .next (answerWith tag 0x14 .ok [BitVec.ofNat 8 (before.length + 1), BitVec.ofNat 8 left.length]
        { s with
          notices := { s.notices with
            window := left
            resend := s.notices.resend.filter (fun x => x ∉ (before ++ [n]).map SentNotice.seq)
            timer := if left = [] ∨ s.notices.liveness = .quiet then none else some (s.notices.timeout * 1250000) }
          sched := (before ++ [n]).foldl releaseNotice s.sched })))
  ∧ (∀ (n : SentNotice) (c : Schedule), ScheduleInv c →
    ((∀ items, n.notice ≠ .actions items) → releaseNotice c n = c)
    ∧ (∀ items, n.notice = .actions items → (items.map ActionItem.id).Nodup → ∀ os : List OrderId,
      os = items.filterMap (fun i => (c.queue.find? (fun e => decide (e.id = i.id ∧ e.reportedIn = some n.seq))).bind Entry.orderId) →
      releaseNotice c n = { c with
        queue := c.queue.filter (fun e => ¬(e.id ∈ items.map ActionItem.id ∧ e.reportedIn = some n.seq))
        spent := (c.spent ++ os).drop ((c.spent ++ os).length - 16) }))

/-- HALT_SET by the table of R159: a policy byte above 1 is refused with BAD_VALUE; the policy becomes the value given; a change to FREEZE with HALTN low
freezes a core that is not IDLE or HALTED as an assertion does, a change to IGNORE releases a HALTED core, and any other setting changes the policy alone; the
response carries the policy, the level judged and the core state after the request. -/
def Obligations.HaltSetActsByThePolicyTable : Prop :=
  ∀ (tag v : Byte) (s : State), TakesRequest tag 0x13 [v] s →
    (1 < v.toNat → exec .haltSet s = .next (answerWith tag 0x13 .badValue [] s))
    ∧ (∀ new : HaltPolicy, v.toNat = codeHaltPolicy new →
      ((new = s.halt.policy ∨ (new = .freeze ∧ (s.halt.level = .high ∨ s.core.state = .idle)) ∨ (new = .ignore ∧ s.core.state ≠ .halted)) →
        exec .haltSet s = .next (answerWith tag 0x13 .ok (v :: (u8 (codeLevel s.halt.level) ++ u8 (codeCoreState s.core.state)))
          { s with halt := { s.halt with policy := new } }))
      ∧ (s.halt.policy = .ignore → new = .freeze → s.halt.level = .low → s.core.state ≠ .idle → s.core.state ≠ .halted →
        exec .haltSet s = .next (answerWith tag 0x13 .ok [1, 0, 6] (assertHalt { s with halt := { s.halt with policy := .freeze } })))
      ∧ (s.halt.policy = .freeze → new = .ignore → s.core.state = .halted → ∀ t, t = releaseHalt { s with halt := { s.halt with policy := .ignore } } →
        exec .haltSet s = .next (answerWith tag 0x13 .ok (0 :: (u8 (codeLevel s.halt.level) ++ u8 (codeCoreState t.core.state))) t)))

/-! ## Requests: starting and stopping the time core -/

/-- TIME_START's five checks in order: outside IDLE, or with FREEZE and HALTN low, WRONG_STATE; a plan index above 3 BAD_VALUE; an EMPTY plan PLAN_EMPTY; a
MASTER plan with no start value BAD_VALUE; a refused request has no other effect (R150). -/
def Obligations.TimeStartIsRefusedInOrder : Prop :=
  ∀ (tag : Byte) (b : List Byte) (s : State), b.length = 1 ∨ b.length = 9 → TakesRequest tag 0x0B b s →
    (s.core.state ≠ .idle ∨ (s.halt.policy = .freeze ∧ s.halt.level = .low) → exec .timeStart s = .next (answerWith tag 0x0B .wrongState [] s))
    ∧ (s.core.state = .idle → ¬(s.halt.policy = .freeze ∧ s.halt.level = .low) →
      (3 < byteAt b 0 → exec .timeStart s = .next (answerWith tag 0x0B .badValue [] s))
      ∧ (∀ n : PlanNo, byteAt b 0 = n.val →
        (s.plans.records.get n = none → exec .timeStart s = .next (answerWith tag 0x0B .planEmpty [] s))
        ∧ (∀ p, s.plans.records.get n = some p → p.role = .master → b.length = 1 →
          exec .timeStart s = .next (answerWith tag 0x0B .badValue [] s))))

/-- A TIME_START that passes its checks: the plan active, the core as Table 1-3 gives it with its counts at 0, its generator started at the nominal interval, with
the first step one interval away, when a start value is given and stopped otherwise, every link in the plan's direction, each RECEIVE link's qualifier
in SEEK with its counts 0, its phase unknown, its last interval none, its announce-seen flag clear and no timer running (R46), every receiver empty, no selection, the
notices TIME, LINK of each RECEIVE link in order and PLAN raised, the first set composed when a start value is given, and everything else as it stood (R5, R7, R19,
R151). The premises on the plan table, the core and the links are invariants of their own. -/
def Obligations.TimeStartIsCarriedOutWhole : Prop :=
  ∀ (tag : Byte) (b : List Byte) (v : Option Time) (n : PlanNo) (p : Plan) (s : State), PlanInv s → CoreInv s.core → (∀ l, LinkInv (link l s)) →
    s.core.state = .idle → ¬(s.halt.policy = .freeze ∧ s.halt.level = .low) → s.plans.records.get n = some p →
    (b = [BitVec.ofNat 8 n.val] ∧ v = none ∧ p.role ≠ .master ∨ ∃ x, v = some x ∧ b = BitVec.ofNat 8 n.val :: u64 x) →
    TakesRequest tag 0x0B b s →
    ∃ t, exec .timeStart s = .next t
      ∧ t.plans = { s.plans with active := some n }
      ∧ (t.core.state = match v, p.role with
          | none, _ => .acquiring
          | some _, .master => .master
          | some _, .backup => .master
          | some _, .follower => .free)
      ∧ (t.core.takeover = true ↔ v.isSome ∧ p.role = .backup)
      ∧ t.core.valid = v.isSome ∧ t.core.time = v.getD s.core.time
      ∧ t.core.record = { final := v.getD s.core.record.final, valid := v.isSome }
      ∧ (v = none → (t.core.grade, t.core.hops) = (4, 15))
      ∧ (v.isSome → (t.core.grade, t.core.hops) = match p.role with
          | .master => (0, 0)
          | .backup => (2, 0)
          | .follower => (4, 15))
      ∧ t.core.syncIndex = 0 ∧ t.core.steps = 0 ∧ t.core.ticks = 0 ∧ t.core.holdoverCount = 0 ∧ t.core.realignPending = false
      ∧ t.core.outRealign = none ∧ t.core.remembered = none ∧ t.core.learned = [] ∧ t.core.syncWork = none ∧ t.core.gen.elapsed = 0
      ∧ (v = none → t.core.gen = { s.core.gen with running := false, elapsed := 0 })
      ∧ (v.isSome → t.core.gen = { running := true, elapsed := 0, spacing := p.nominal, fromRecord := false, cycle := 0 })
      ∧ (∀ l, (link l t).dir = p.dirs.get l ∧ ((link l t).qual.state = if p.dirs.get l = .receive then .seek else .off)
          ∧ (p.dirs.get l = .receive → (link l t).qual = { (link l s).qual with
              state := .seek, good := 0, bad := 0, phase := none, lastInterval := none, announceSeen := false, loss := none, hold := none })
          ∧ (link l t).rx = { msg := [], discard := false, annCur := none, annLast := none, qualCur := none, qualLast := none }
          ∧ (link l t).offset = (link l s).offset ∧ (link l t).holdoff = (link l s).holdoff
          ∧ (link l t).qual.badSteps = (link l s).qual.badSteps ∧ (link l t).qual.syncFaults = (link l s).qual.syncFaults
          ∧ (link l t).qual.losses = (link l s).qual.losses ∧ (link l t).pair = (link l s).pair)
      ∧ t.sel = { source := none, joined := false }
      ∧ t.notices = raised (.plan (some n) none .start 0)
          ((allLinks.filter (fun l => p.dirs.get l = .receive)).foldl (fun u l => raised (.link l .seek .off .direction 1) u)
            (raised (.time t.core.state .idle none t.core.grade t.core.hops none 0 1) s.notices))
      ∧ (t.outSet = v.map (fun x => messageBytes (.announce { time := x + BitVec.ofNat 64 p.sps, plan := n })
          ++ messageBytes (.quality { grade := t.core.grade, hops := t.core.hops, takeover := t.core.takeover, core := t.core.state })))
      ∧ t.sched = s.sched ∧ t.capture = s.capture ∧ t.pulses = s.pulses ∧ t.halt = s.halt
      ∧ t.passing = s.passing ∧ t.caughtUp = s.caughtUp ∧ t.kept = s.kept ∧ t.edgeAt = s.edgeAt
      ∧ t.channel = answered tag 0x0B .ok (u8 (codeCoreState t.core.state) ++ u8 (codeFlag t.core.valid)) s.channel

/-- TIME_STOP is answered OK with the time value and the sync index kept. In IDLE it changes nothing else. Outside IDLE it is carried out whole: the PENDING
entries FLUSHED, the outputs inactive, the core at the TIME_STOP values of Table 1-6, no active plan, every link OFF with the values of Table 3-6, no selection, and the notices ACTIONS,
TIME, LINK of each RECEIVE link in order and PLAN raised (R22, R106, R123, R152; the source that the TIME notice shows is log entry 14). No mark waits for a pair
any more, and one that a pair carries runs out its ticks (R24; log entry 27). -/
def Obligations.TimeStopIsCarriedOutWhole : Prop :=
  ∀ (tag : Byte) (s : State), TakesRequest tag 0x0C [] s →
    (s.core.state = .idle → exec .timeStop s = .next (answerWith tag 0x0C .ok (u64 s.core.time ++ u32 s.core.syncIndex.toNat) s))
    ∧ (s.core.state ≠ .idle → ∃ t, exec .timeStop s = .next t
      ∧ t.core = { s.core with
          state := .idle, valid := false, steps := 0, record := { final := s.core.record.final, valid := false }, learned := [],
          holdoverCount := 0, realignPending := false, outRealign := none, takeover := false, remembered := none, grade := 4, hops := 15,
          gen := { s.core.gen with running := false } }
      ∧ t.plans = { s.plans with active := none } ∧ t.outSet = none ∧ t.sel = { source := none, joined := false }
      ∧ (∀ l, (link l t).dir = .off ∧ (link l t).offset = (link l s).offset ∧ (link l t).holdoff = (link l s).holdoff
          ∧ (link l t).qual.badSteps = (link l s).qual.badSteps ∧ (link l t).qual.syncFaults = (link l s).qual.syncFaults
          ∧ (link l t).qual.losses = (link l s).qual.losses
          ∧ (link l t).pair = { (link l s).pair with waiting := [] }
          ∧ ((link l s).dir ≠ .off → (link l t).qual = { (link l s).qual with
                state := .off, good := 0, bad := 0, phase := none, lastInterval := none, announceSeen := false, loss := none, hold := none }
              ∧ (link l t).rx = { msg := [], discard := false, annCur := none, annLast := none, qualCur := none, qualLast := none })
          ∧ ((link l s).dir = .off → (link l t).qual = (link l s).qual ∧ (link l t).rx = (link l s).rx))
      ∧ t.sched = { s.sched with queue := s.sched.queue.map (fun e => if e.outcome = none then { e with outcome := some .flushed } else e) }
      ∧ (∀ o, t.pulses.get o = { polarity := (s.pulses.get o).polarity, active := false, width := 0 })
      ∧ t.notices = raised (.plan none s.plans.active .stop s.core.syncIndex)
          ((allLinks.filter (fun l => (link l s).dir = .receive)).foldl (fun u l => raised (.link l .off (link l s).qual.state .direction 1) u)
            (raised (.time .idle s.core.state s.sel.source 4 15 none s.core.syncIndex 1)
              ((s.sched.queue.filter (fun e => e.outcome = none)).foldl
                (fun u e => raised (.actions [{ id := e.id, action := e.action, outcome := .flushed, orderId := e.orderId }]) u) s.notices)))
      ∧ t.capture = s.capture ∧ t.halt = s.halt
      ∧ t.passing = s.passing ∧ t.caughtUp = s.caughtUp ∧ t.kept = s.kept ∧ t.edgeAt = s.edgeAt
      ∧ t.channel = answered tag 0x0C .ok (u64 s.core.time ++ u32 s.core.syncIndex.toNat) s.channel)

/-! ## The schedule -/

/-- ACTION_ADD's five checks in order, the first that fails giving the status with no other effect; a request that passes them inserts one PENDING entry of
origin CHANNEL, with a fresh action id that the answer carries, 3 sends when it has an order id and 0 otherwise, in its place by due (R90, R91, R93, R94,
R154). The first clause says when check 3 fails: the order id and the propagate flag disagree, the flag has no code, the order id is 0, the kind is none of
LOAD, SWITCH and PULSE, the SWITCH plan or PULSE output is above 3, or the PULSE width is 0; the second, which action and order id a payload that passes it
carries, by Table 12-7. The premise on the schedule is an invariant of its own. -/
def Obligations.ActionAddInsertsOneEntry : Prop :=
  (∀ b : List Byte, b.length = 18 ∨ b.length = 20 →
      (addedAction b = none ↔
        1 < byteAt b 1 ∨ (b.length = 20 ∧ (byteAt b 1 = 0 ∨ numAt b 18 2 = 0)) ∨ (b.length = 18 ∧ byteAt b 1 = 1)
          ∨ byteAt b 0 = 0 ∨ 3 < byteAt b 0 ∨ (byteAt b 0 = 2 ∧ 3 < byteAt b 10)
          ∨ (byteAt b 0 = 3 ∧ (3 < byteAt b 10 ∨ numAt b 11 2 = 0))))
  ∧ (∀ (b : List Byte) (a : Action) (o : Option OrderId), b.length = 18 ∨ b.length = 20 → addedAction b = some (a, o) →
      ((byteAt b 0 = 1 ∧ a = .load (timeAt b 10)) ∨ (byteAt b 0 = 2 ∧ ∃ n : PlanNo, byteAt b 10 = n.val ∧ a = .switch n)
        ∨ (byteAt b 0 = 3 ∧ ∃ out : OutputNo, byteAt b 10 = out.val
            ∧ a = .pulse out (byteAt b 11 + 256 * byteAt b 12) (byteAt b 13 + 256 * byteAt b 14)))
      ∧ o = (if b.length = 20 then some (BitVec.ofNat 16 (byteAt b 18 + 256 * byteAt b 19)) else none))
  ∧ (∀ (tag : Byte) (b : List Byte) (s : State), b.length = 18 ∨ b.length = 20 → TakesRequest tag 0x0E b s → ScheduleInv s.sched →
      (s.core.valid = false → exec .actionAdd s = .next (answerWith tag 0x0E .wrongState [] s))
      ∧ (s.core.valid = true → (timeAt b 2).toNat ≤ s.core.record.final.toNat → exec .actionAdd s = .next (answerWith tag 0x0E .tooLate [] s))
      ∧ (s.core.valid = true → s.core.record.final.toNat < (timeAt b 2).toNat →
        (addedAction b = none → exec .actionAdd s = .next (answerWith tag 0x0E .badValue [] s))
        ∧ (∀ a o, addedAction b = some (a, o) →
          (∀ i, o = some i → (∃ e ∈ s.sched.queue, e.orderId = some i) ∨ i ∈ s.sched.spent →
            exec .actionAdd s = .next (answerWith tag 0x0E .duplicate [] s))
          ∧ ((∀ i, o = some i → (∀ e ∈ s.sched.queue, e.orderId ≠ some i) ∧ i ∉ s.sched.spent) →
            (s.sched.queue.length = 32 → exec .actionAdd s = .next (answerWith tag 0x0E .queueFull [] s))
            ∧ (s.sched.queue.length < 32 → ∃ (id : Nat) (c : Schedule),
              Inserted { id := id, action := a, due := timeAt b 2, outcome := none, origin := .channel, orderId := o,
                         sends := if o.isSome then 3 else 0, reportedIn := none } s.sched c
                ∧ exec .actionAdd s = .next (answerWith tag 0x0E .ok [BitVec.ofNat 8 id] { s with sched := c }))))))

/-- ACTION_CANCEL: the id 0 is BAD_VALUE, an id that no entry holds NOT_FOUND, a FINISHED entry WRONG_STATE; a PENDING entry becomes FINISHED with outcome
CANCELLED in its place and is reported by one ACTIONS item (R104, R107, R155). -/
def Obligations.ActionCancelFinishesTheEntry : Prop :=
  ∀ (tag i : Byte) (s : State), TakesRequest tag 0x0F [i] s →
    (i = 0 → exec .actionCancel s = .next (answerWith tag 0x0F .badValue [] s))
    ∧ (i ≠ 0 → (∀ e ∈ s.sched.queue, e.id ≠ i.toNat) → exec .actionCancel s = .next (answerWith tag 0x0F .notFound [] s))
    ∧ (∀ before e after, i ≠ 0 → s.sched.queue = before ++ e :: after → e.id = i.toNat → (∀ x ∈ before ++ after, x.id ≠ i.toNat) →
      (e.outcome.isSome → exec .actionCancel s = .next (answerWith tag 0x0F .wrongState [] s))
      ∧ (e.outcome = none → exec .actionCancel s = .next (answerWith tag 0x0F .ok [] { s with
          sched := { s.sched with queue := before ++ { e with outcome := some .cancelled } :: after }
          notices := raised (.actions [{ id := e.id, action := e.action, outcome := .cancelled, orderId := e.orderId }]) s.notices })))

/-- A firing, at the stage that R99 to R102 describe. Of one entry: its outcome is DONE when the record is valid and its due exceeds the record's final value,
LATE otherwise, and REFUSED for a SWITCH to an EMPTY plan; a LOAD sets the time value, its jump reported when it is not 0 and its realign flagged when it was
not propagated (R17); a SWITCH is held; a PULSE drives its output, and with a period stays PENDING at its new due (R82, R107, R121). Of several entries: each
is settled and applied in queue order, the last LOAD gives the value and the last SWITCH taken the held target, those before them are SUPERSEDED, every entry
ends its turn, and the items are raised in queue order (R82, R99 to R102, R107). That the one TIME notice of the loads is raised before the items is log entry
15; that entries end their turns in queue order is log entry 28, on which the last clause does not rest. -/
def Obligations.FiringSettlesTheDueEntry : Prop :=
  (∀ (v : Time) (r : SyncRecord) (sps : Nat) (e : Entry) (before after : List Entry) (o : Ending) (s t : State),
    s.core.time = v → dueEntries v s.sched.queue = [e] → s.sched.queue = before ++ e :: after → (∀ x ∈ before ++ after, x.id ≠ e.id) →
    o = (if r.valid ∧ r.final.toNat < e.due.toNat then .done else .late) → t = fire v r sps s →
    (∀ x, e.action = .load x →
      t = { s with
        core := { s.core with
          time := x, outRealign := if x ≠ v ∧ e.orderId = none then some (carryingSync s.core) else s.core.outRealign }
        sched := { s.sched with queue := before ++ { e with outcome := some o, sends := 0 } :: after }
        notices := raised (.actions [itemOf e o]) (if x = v then s.notices
          else raised (.time s.core.state s.core.state s.sel.source s.core.grade s.core.hops (some (x - v)) s.core.syncIndex 1) s.notices) })
    ∧ (∀ n, e.action = .switch n →
      (s.plans.records.get n = none → t = { s with
        sched := { s.sched with queue := before ++ { e with outcome := some .refused, sends := 0 } :: after }
        notices := raised (.actions [itemOf e .refused]) s.notices })
      ∧ ((s.plans.records.get n).isSome → t = { s with
        plans := { s.plans with held := some n }
        sched := { s.sched with queue := before ++ { e with outcome := some o, sends := 0 } :: after }
        notices := raised (.actions [itemOf e o]) s.notices }))
    ∧ (∀ out w, e.action = .pulse out w 0 → t = { s with
        pulses := s.pulses.set out { s.pulses.get out with active := true, width := w }
        sched := { s.sched with queue := before ++ { e with outcome := some o, sends := 0 } :: after }
        notices := raised (.actions [itemOf e o]) s.notices })
    ∧ (∀ out w q, e.action = .pulse out w q → 0 < q → s.sched.queue.Pairwise (fun a b => a.due.toNat ≤ b.due.toNat) →
        ∃ queue, InsertedByDue { e with due := v + BitVec.ofNat 64 (q * sps), sends := 0 } (before ++ after) queue
          ∧ t = { s with
            pulses := s.pulses.set out { s.pulses.get out with active := true, width := w }
            sched := { s.sched with queue := queue } }))
  ∧ (∀ (v x : Time) (r : SyncRecord) (sps : Nat) (es queue : List Entry) (settled : List (Entry × Ending)) (s t : State),
    s.core.time = v → es = s.sched.queue.filter (fun e => e.outcome.isNone && decide (e.due.toNat ≤ v.toNat)) →
    (s.sched.queue.map Entry.id).Nodup → settled = settledEntries s.plans.records r es → x = afterLoads es v →
    queue = s.sched.queue.map (fun e => match settled.find? (fun y => y.1.id == e.id) with
      | some y => afterTurn v sps y
      | none => e) →
    t = fire v r sps s →
    t = { s with
      core := { s.core with
        time := x
        outRealign := if x ≠ v ∧ es.any (fun e => isLoad e && e.orderId.isNone) then some (carryingSync s.core) else s.core.outRealign }
      plans := { s.plans with held := afterSwitches s.plans.records es s.plans.held }
      pulses := afterPulses es s.pulses
      sched := { s.sched with queue := t.sched.queue }
      notices := (settled.filter (fun y => !repeats y.1)).foldl (fun u y => raised (.actions [itemOf y.1 y.2]) u) (if x = v then s.notices
        else raised (.time s.core.state s.core.state s.sel.source s.core.grade s.core.hops (some (x - v)) s.core.syncIndex 1) s.notices) }
    ∧ t.sched.queue.Perm queue ∧ ((∀ e ∈ es, repeats e = false) → t.sched.queue = queue)
    ∧ (s.sched.queue.Pairwise (fun a b => a.due.toNat ≤ b.due.toNat) → t.sched.queue.Pairwise (fun a b => a.due.toNat ≤ b.due.toNat)))

/-- An accepted ORDER is handed to the schedule unit on the link of the selected source and on no other (R95, R96): a known order id is ignored; with valid time,
a due already passed counts ORDER_LATE; a full queue counts ORDER_DROPPED; otherwise one PENDING entry is inserted with the link as origin, 3 sends, and a LOAD
value moved by the link offset. The premise on the schedule is an invariant of its own. -/
def Obligations.OrderIsInsertedOrCounted : Prop :=
  ∀ (l : LinkNo) (m : Order) (s : State), ScheduleInv s.sched →
    (s.sel.source ≠ some l → acceptMessage l (.order m) s = s)
    ∧ (s.sel.source = some l →
      ((∃ e ∈ s.sched.queue, e.orderId = some m.id) ∨ m.id ∈ s.sched.spent → acceptMessage l (.order m) s = s)
      ∧ ((∀ e ∈ s.sched.queue, e.orderId ≠ some m.id) → m.id ∉ s.sched.spent →
        (s.core.valid = true → m.due.toNat ≤ s.core.record.final.toNat → acceptMessage l (.order m) s = raiseFault .orderLate s)
        ∧ (s.core.valid = false ∨ s.core.record.final.toNat < m.due.toNat →
          (s.sched.queue.length = 32 → acceptMessage l (.order m) s = raiseFault .orderDropped s)
          ∧ (s.sched.queue.length < 32 → ∃ (id : Nat) (c : Schedule),
            Inserted { id := id, due := m.due, outcome := none, origin := .link l, orderId := some m.id, sends := 3, reportedIn := none,
                       action := match m.action with
                         | .load x => .load (x + (link l s).offset.signExtend 64)
                         | a => a } s.sched c
              ∧ acceptMessage l (.order m) s = { s with sched := c }))))

/-- The set that the senders compose holds one TIME_ANNOUNCE of the latest final value plus the SPS, one QUALITY of the node's own, and the ORDERs of the first
two PENDING entries with sends remaining, in 17, 37 or 57 bytes; each of those entries' sends fall by one (R27, R97). -/
def Obligations.MessageSetHoldsAnnounceQualityAndOrders : Prop :=
  ∀ (i : PlanNo) (p : Plan) (s : State) (es : List Entry), s.plans.active = some i → s.plans.records.get i = some p →
    (s.sched.queue.map Entry.id).Nodup →
    es = (s.sched.queue.filter (fun e => e.outcome.isNone && decide (0 < e.sends))).take 2 →
    ∃ set, compose s = { s with
        outSet := some set
        sched := { s.sched with queue := s.sched.queue.map (fun e => if e ∈ es then { e with sends := e.sends - 1 } else e) } }
      ∧ set = messageBytes (.announce { time := s.core.record.final + BitVec.ofNat 64 p.sps, plan := i })
          ++ messageBytes (.quality { grade := s.core.grade, hops := s.core.hops, takeover := s.core.takeover, core := s.core.state })
          ++ es.flatMap (fun e => messageBytes (.order { id := e.orderId.getD 0, due := e.due, action := e.action }))
      ∧ set.length = 17 + 20 * es.length

/-! ## Event lines, outputs and the halt line -/

/-- EVENT_EDGE: the line is judged at the edge's level; a level judged before makes no edge; an edge that the line's choice does not accept is dropped; an accepted
edge is stored with the time, ticks, state and validity of the core as it finds it and the pending gap while the FIFO holds fewer than 64 records, a CAPTURE
notice raised at a store into an empty FIFO or while one waits unsent, and counted in the gap otherwise (R113, R114, R116, R118). An edge finds the core as it
stands; only where steps were caught up at this instant and nothing but edges has changed a block since, it finds the core at its place among those steps
(R115), a free value of which nothing is known (log entry 31). Of the edges accepted at one tick every later one carries the time value and the ticks of the first
(R116), whatever was taken between them, with the state and the validity of the core at its own place (log entry 33: the model's choice): no command but a
power-on reset and a restart's taking effect forgets what they carry, and only the next tick begins anew (IdleStepIsOneTick). -/
def Obligations.EventEdgeIsStoredOrCounted : Prop :=
  (∀ (line : EventLine) (edge : Edge) (level : Level) (a c : Core) (ended : State → State) (s : State),
    (level = match edge with | .rising => .high | .falling => .low) →
    (a = if s.caughtUp = some s.toBlocks
      then (match s.passing.drop (s.passing.length - Config.edgePlace s.kept) with | x :: _ => x | [] => s.core) else s.core) →
    (c = match s.edgeAt with | some (v, n) => { a with time := v, ticks := n } | none => a) →
    (∀ v, ended v = if s.caughtUp = some s.toBlocks then { v with caughtUp := some v.toBlocks } else v) →
    (s.capture.levels.get line = level → exec (.eventEdge line edge) s = .next s)
    ∧ (s.capture.levels.get line ≠ level →
      (¬(s.capture.edges.get line = .both ∨ (s.capture.edges.get line = .rising ∧ edge = .rising)
          ∨ (s.capture.edges.get line = .falling ∧ edge = .falling)) →
        exec (.eventEdge line edge) s = .next (ended { s with capture := { s.capture with levels := s.capture.levels.set line level } }))
      ∧ (s.capture.edges.get line = .both ∨ (s.capture.edges.get line = .rising ∧ edge = .rising)
          ∨ (s.capture.edges.get line = .falling ∧ edge = .falling) →
        (64 ≤ s.capture.fifo.length → exec (.eventEdge line edge) s = .next (ended (transmit { s with
          edgeAt := some (c.time, c.ticks)
          capture := { s.capture with levels := s.capture.levels.set line level, gap := min (s.capture.gap + 1) 65535 } })))
        ∧ (s.capture.fifo.length < 64 → exec (.eventEdge line edge) s = .next (ended (transmit { s with
          edgeAt := some (c.time, c.ticks)
          capture := { s.capture with
            levels := s.capture.levels.set line level, gap := 0,
            fifo := s.capture.fifo ++ [{ line := line, edge := edge, time := c.time, ticks := c.ticks, state := c.state,
                                         valid := c.valid, gap := s.capture.gap }] }
          notices := if s.capture.fifo = [] ∨ ∃ n ∈ s.notices.unsent, noticeKey n = .capture
            then raised (.capture (s.capture.fifo.length + 1)) s.notices else s.notices }))))))
  ∧ (∀ (line : EventLine) (edge : Edge) (s t : State), s.caughtUp = some s.toBlocks ∨ s.caughtUp = none →
      exec (.eventEdge line edge) s = .next t → coreAtEdge t = coreAtEdge s)
  ∧ (∀ (c : Instr) (carried : Time × Nat) (s t : State), s.edgeAt = some carried → (∀ baud1 baud0 haltn ev, c ≠ .powerOnReset baud1 baud0 haltn ev) →
      ¬RestartLeaves s → exec c s = .next t → t.edgeAt = some carried)

/-- HALTN judged low again, or low under IGNORE or in IDLE, changes at most the judged level; under FREEZE an assertion in any state but IDLE and HALTED halts the
core, which remembers its state and keeps all else, stops the generator, forces every output inactive and raises a TIME notice (R20, R123). -/
def Obligations.HaltAssertionFreezesTheCore : Prop :=
  ∀ s : State,
    (s.halt.level = .low → exec .haltnAssert s = .next s)
    ∧ (s.halt.level = .high → s.halt.policy = .ignore → exec .haltnAssert s = .next { s with halt := { s.halt with level := .low } })
    ∧ (s.halt.level = .high → s.halt.policy = .freeze → s.core.state = .idle →
      exec .haltnAssert s = .next (transmit { s with halt := { s.halt with level := .low } }))
    ∧ (s.halt.level = .high → s.halt.policy = .freeze → s.core.state ≠ .idle → s.core.state ≠ .halted →
      exec .haltnAssert s = .next (transmit { s with
        halt := { s.halt with level := .low }
        core := { s.core with state := .halted, remembered := some s.core.state, gen := { s.core.gen with running := false } }
        pulses := s.pulses.map (fun o => { o with active := false, width := 0 })
        notices := raised (.time .halted s.core.state s.sel.source s.core.grade s.core.hops none s.core.syncIndex 1) s.notices }))

/-- A release takes the core out of HALTED with its time, steps and sync index kept (R21), to the state that R21 chooses: LOCKED again when it was LOCKED and its
source is still joined, with the grade and hops of the source's latest QUALITY; MASTER without takeover when it was that; ACQUIRING when it was that; and the
no-source path otherwise (R12): a backup in takeover stays MASTER, a backup with no selection takes over, and a follower, or a backup with a selected link, is in
HOLDOVER or FREE. Where the resumed state counts on the generator its first step falls one interval after the release (R7). The outbound-realign flag is set, for
the sync that ends the current interval and out of ACQUIRING, where no announce has been sent, for the one after the join (R18, R173; log entry 23); realign-pending
is set in a follower or backup, the remembered state cleared, and a TIME notice raised. A rise of the line in any other state changes the judged level alone. The
premises on the core and the plan table are invariants of their own. -/
def Obligations.HaltReleaseResumesTheCore : Prop :=
  ∀ s : State,
    (s.halt.level = .high → exec .haltnRelease s = .next s)
    ∧ (s.halt.level = .low → s.halt.policy = .ignore → exec .haltnRelease s = .next { s with halt := { s.halt with level := .high } })
    ∧ (s.halt.level = .low → s.halt.policy = .freeze → s.core.state ≠ .halted →
      exec .haltnRelease s = .next (transmit { s with halt := { s.halt with level := .high } }))
    ∧ (∀ p st, s.halt.level = .low → s.halt.policy = .freeze → s.core.state = .halted → CoreInv s.core → PlanInv s → activePlan s = some p →
        s.core.remembered = some st →
      ∃ t, exec .haltnRelease s = .next (transmit t)
        ∧ t = { s with
          halt := { s.halt with level := .high }
          core := t.core
          notices := raised (.time t.core.state .halted s.sel.source t.core.grade t.core.hops none s.core.syncIndex 1) s.notices }
        ∧ t.core = { s.core with
            state := t.core.state, takeover := t.core.takeover, grade := t.core.grade, hops := t.core.hops, holdoverCount := t.core.holdoverCount,
            gen := t.core.gen, remembered := none, outRealign := some (s.core.syncIndex + if st = .acquiring then 2 else 1),
            realignPending := s.core.realignPending || decide (p.role ≠ .master) }
        ∧ (st = .acquiring → (t.core.state, t.core.takeover, t.core.grade, t.core.hops) = (.acquiring, false, 4, 15))
        ∧ (st = .locked → s.sel.joined = true → ∀ q, q = gradeAndHops (s.sel.source.bind (fun l => latestQuality (link l s).rx)) →
            (t.core.state, t.core.takeover, t.core.grade, t.core.hops) = (.locked, false, max 1 q.1, min 15 (q.2 + 1)))
        ∧ (st = .master → s.core.takeover = false → (t.core.state, t.core.takeover, t.core.grade, t.core.hops) = (.master, false, 0, 0))
        ∧ (st = .master → s.core.takeover = true → (t.core.state, t.core.takeover, t.core.grade, t.core.hops) = (.master, true, 2, 0))
        ∧ (st = .holdover ∨ st = .free ∨ (st = .locked ∧ s.sel.joined = false) →
            (p.role = .master → (t.core.state, t.core.takeover, t.core.grade, t.core.hops) = (.master, false, 0, 0))
            ∧ (p.role = .backup → s.sel.source = none → (t.core.state, t.core.takeover, t.core.grade, t.core.hops) = (.master, true, 2, 0))
            ∧ (p.role = .follower ∨ (p.role = .backup ∧ s.sel.source.isSome) →
                (t.core.state, t.core.holdoverCount) = aloneState st s.core.learned.length s.core.holdoverCount
                ∧ t.core.takeover = false ∧ t.core.hops = s.core.hops ∧ t.core.grade = if t.core.state = .holdover then 3 else 4))
        ∧ (t.core.state ≠ .holdover → t.core.holdoverCount = s.core.holdoverCount)
        ∧ (t.core.state = .locked ∨ t.core.state = .acquiring → t.core.gen = { s.core.gen with running := false, elapsed := 0 })
        ∧ (t.core.state = .master → t.core.gen = { running := true, elapsed := 0, spacing := p.nominal, fromRecord := false, cycle := 0 })
        ∧ (t.core.state = .holdover ∨ t.core.state = .free → t.core.gen = if s.core.learned.length = 8
            then { running := true, elapsed := 0, spacing := s.core.learned.headD 0, fromRecord := true, cycle := 0 }
            else { running := true, elapsed := 0, spacing := p.nominal, fromRecord := false, cycle := 0 }))

/-- PULSE_WIDTH_END makes an active output whose remaining width is 0 inactive and changes nothing else; HOLDOVER_EXPIRED, with a limit other than 0 reached within
the work of a sync, makes a HOLDOVER core FREE with grade 4, counts HOLDOVER_EXPIRED and raises a TIME notice (R9, R122). That each is a command of its own,
enabled within a step's work only, is the model's reading (log entry 10). The last clause says what a counted step does to an output: nothing to an inactive one; an
active one loses one step of its width, and becomes inactive when the width reaches 0 (R122). -/
def Obligations.WidthEndAndHoldoverExpiry : Prop :=
  (∀ (o : OutputNo) (s : State), exec (.pulseWidthEnd o) s = .next { s with
    pulses := s.pulses.set o { s.pulses.get o with active := (s.pulses.get o).active && decide ((s.pulses.get o).width ≠ 0) } })
  ∧ (∀ (p : Plan) (s : State), activePlan s = some p → s.core.state = .holdover → s.core.syncWork.isSome → s.core.gen.running = true →
    p.limit ≠ 0 → p.limit ≤ s.core.holdoverCount →
    exec .holdoverExpired s = .next (transmit { s with
      core := { s.core with state := .free, grade := 4 }
      notices := raised (.time .free .holdover s.sel.source 4 s.core.hops none s.core.syncIndex 1)
        (raised (.fault [(.holdoverExpired, 1)]) s.notices) }))
  ∧ (∀ q : Pulse,
    (q.active = false → stepPulse q = q)
    ∧ (q.active = true → 1 < q.width → stepPulse q = { q with width := q.width - 1 })
    ∧ (q.active = true → q.width ≤ 1 → stepPulse q = { q with active := false, width := 0 }))

/-! ## The links -/

/-- A mark on a pair that is SEND or OFF reaches no block (R23). A mark handed to a free pair with nothing waiting takes it for 4 ticks; one handed to any other pair
waits behind the marks ahead of it. CAUGHT_UP_MARK_LEAVES: of a core that counts with valid time, a free pair's first mark waiting leaves and takes the pair for
4 ticks (R26), whether the link is still SEND or lost that at a switch whose sync waits there (R29, log entry 11). -/
def Obligations.PairsOutsideReceive : Prop :=
  (∀ (l : LinkNo) (k : MarkKind) (b : Option Byte) (s : State), (link l s).dir ≠ .receive → exec (.linkMark l k b) s = .next s)
  ∧ (∀ (l : LinkNo) (m : Mark) (ms : List Mark) (s : State), s.core.valid = true →
      (s.core.state = .locked ∨ s.core.state = .holdover ∨ s.core.state = .free ∨ s.core.state = .master) → (link l s).pair.busy = 0 →
      (link l s).pair.waiting = m :: ms →
      exec (.caughtUpMarkLeaves l) s = .next { s with links := s.links.set l { link l s with pair := { mark := some m, busy := 4, waiting := ms } } })
  ∧ (∀ (m : Mark) (p : Pair),
      (p.busy = 0 → p.waiting = [] → pairSend m p = { mark := some m, busy := 4, waiting := [] })
      ∧ (p.busy ≠ 0 ∨ p.waiting ≠ [] → pairSend m p = { p with waiting := p.waiting ++ [m] }))

/-- The first mark in SEEK, here on a link that is not the selected source, starts measurement: QUALIFYING with good count 0, the loss timer at four nominal
intervals, the phase 0 at a sync mark, which also takes the SPS, and a LINK notice with cause GOOD_COUNT (R43, R46, R49). A plain mark on such a link that is
QUALIFYING, VALID or SUSPECT is measured and judged bad step before sync fault before good (R42 to R45, R55), and the verdict moves the qualifier (R47, R48): good
marks count up to VALID, a bad one makes VALID SUSPECT, clears the good count elsewhere, and fails SUSPECT beyond the grace, with the records cleared (R174) and the
hold-off running (R50; its unit of 10 ms is R39, log entry 21) or, where it is 0, SEEK entered at once with a second notice. The last clause is the same for a sync
mark of either kind: it sets the phase to 0, takes the plan's SPS and clears the announce-seen flag (R43, R44; also where it first sets the phase, which is log entry
13: DEDUCED), it is a sync fault at a phase that is known and not the one due, or with no announce seen (R44), a QUALIFYING link may enter VALID at it, for its phase
is then known (R47), and the interval's records roll over (R32). A plain mark's byte is taken into message assembly after the qualifier's work (R25, R30; what it does
there is WholeMessageIsAcceptedOrCounted's). Each clause is for the mark that leaves the selection as it is. -/
def Obligations.FirstMarkLeavesSeek : Prop :=
  (∀ (l : LinkNo) (p : Plan) (s : State), activePlan s = some p → (link l s).dir = .receive → (link l s).qual.state = .seek →
    s.sel.source ≠ some l → choose p s = s.sel.source →
    (∀ b, exec (.linkMark l .plain b) s = .next (afterByte l b s { s with
      links := s.links.set l { link l s with qual := { (link l s).qual with
        state := .qualifying, good := 0, sinceMark := 0, loss := some (4 * p.nominal) } }
      notices := raised (.link l .qualifying .seek .goodCount 1) s.notices }))
    ∧ ∃ t, exec (.linkMark l .sync none) s = .next t ∧ (link l t).qual.state = .qualifying ∧ (link l t).qual.phase = some 0
      ∧ (link l t).qual.intervalSps = some p.sps ∧ (link l t).qual.loss = some (4 * p.nominal) ∧ t.core = s.core)
  ∧ (∀ (l : LinkNo) (p : Plan) (b : Option Byte) (bad fault : Bool) (cause : LinkCause) (u : LinkUnit) (q m : Qualifier) (s t : State), activePlan s = some p →
    u = link l s → q = u.qual → u.dir = .receive → s.sel.source ≠ some l → choose p t = s.sel.source →
    (bad = false ↔ IntervalIsGood p q) → (fault = true ↔ PlainMarkIsFault q) → cause = (if bad then .badStep else .syncFault) →
    m = measuredPlain p bad fault q →
    (q.state = .valid → bad = false → fault = false → t = { s with links := s.links.set l { u with qual := m } } →
      exec (.linkMark l .plain b) s = .next (afterByte l b s t))
    ∧ (q.state = .valid → bad = true ∨ fault = true →
      t = { s with
        links := s.links.set l { u with qual := { m with state := .suspect, bad := 1, good := 0 } }
        notices := raised (.link l .suspect .valid cause 1) s.notices } →
      exec (.linkMark l .plain b) s = .next (afterByte l b s t))
    ∧ (q.state = .qualifying ∨ q.state = .suspect → bad = false → fault = false →
      (p.validity ≤ min (q.good + 1) 255 → (q.state = .qualifying → q.phase.isSome) →
        t = { s with
          links := s.links.set l { u with qual := { m with state := .valid, bad := 0, good := min (q.good + 1) 255 } }
          notices := raised (.link l .valid q.state .goodCount 1) s.notices } →
        exec (.linkMark l .plain b) s = .next (afterByte l b s t))
      ∧ (min (q.good + 1) 255 < p.validity ∨ (q.state = .qualifying ∧ q.phase = none) →
        t = { s with links := s.links.set l { u with qual := { m with good := min (q.good + 1) 255 } } } →
        exec (.linkMark l .plain b) s = .next (afterByte l b s t)))
    ∧ (q.state = .qualifying → bad = true ∨ fault = true → t = { s with links := s.links.set l { u with qual := { m with good := 0 } } } →
      exec (.linkMark l .plain b) s = .next (afterByte l b s t))
    ∧ (q.state = .suspect → bad = true ∨ fault = true →
      (q.bad + 1 ≤ p.grace → t = { s with links := s.links.set l { u with qual := { m with bad := q.bad + 1, good := 0 } } } →
        exec (.linkMark l .plain b) s = .next (afterByte l b s t))
      ∧ (p.grace < q.bad + 1 → u.holdoff ≠ 0 →
        t = { s with
          links := s.links.set l { u with
            qual := { m with state := .failed, bad := q.bad + 1, good := 0, phase := none, announceSeen := false, loss := none,
                             hold := some (u.holdoff.toNat * 1250000) }
            rx := recordsCleared u.rx }
          notices := raised (.link l .failed .suspect cause 1) s.notices } →
        exec (.linkMark l .plain b) s = .next (afterByte l b s t))
      ∧ (p.grace < q.bad + 1 → u.holdoff = 0 →
        t = { s with
          links := s.links.set l { u with
            qual := { m with state := .seek, bad := 0, good := 0, phase := none, lastInterval := none, announceSeen := false, loss := none,
                             hold := none }
            rx := recordsCleared u.rx }
          notices := raised (.link l .seek .failed .holdoffDone 1) (raised (.link l .failed .suspect cause 1) s.notices) } →
        exec (.linkMark l .plain b) s = .next (afterByte l b s t))))
  ∧ (∀ (l : LinkNo) (k : MarkKind) (p : Plan) (bad fault : Bool) (cause : LinkCause) (u : LinkUnit) (q m : Qualifier) (s t : State), activePlan s = some p →
    k ≠ .plain → u = link l s → q = u.qual → u.dir = .receive → s.sel.source ≠ some l → choose p t = s.sel.source → u.rx.msg = [] →
    (u.rx.qualCur = none → u.rx.qualLast = none) → (bad = false ↔ IntervalIsGood p q) → (fault = true ↔ SyncMarkIsFault q) →
    cause = (if bad then .badStep else .syncFault) → m = measuredSync p bad fault q →
    (q.state = .valid → bad = false → fault = false → t = { s with links := s.links.set l { u with qual := m, rx := rolledOver u.rx } } →
      exec (.linkMark l k none) s = .next (transmit t))
    ∧ (q.state = .valid → bad = true ∨ fault = true →
      t = { s with
        links := s.links.set l { u with qual := { m with state := .suspect, bad := 1, good := 0 }, rx := rolledOver u.rx }
        notices := raised (.link l .suspect .valid cause 1) s.notices } →
      exec (.linkMark l k none) s = .next (transmit t))
    ∧ (q.state = .qualifying ∨ q.state = .suspect → bad = false → fault = false →
      (p.validity ≤ min (q.good + 1) 255 →
        t = { s with
          links := s.links.set l { u with qual := { m with state := .valid, bad := 0, good := min (q.good + 1) 255 }, rx := rolledOver u.rx }
          notices := raised (.link l .valid q.state .goodCount 1) s.notices } →
        exec (.linkMark l k none) s = .next (transmit t))
      ∧ (min (q.good + 1) 255 < p.validity →
        t = { s with links := s.links.set l { u with qual := { m with good := min (q.good + 1) 255 }, rx := rolledOver u.rx } } →
        exec (.linkMark l k none) s = .next (transmit t)))
    ∧ (q.state = .qualifying → bad = true ∨ fault = true →
      t = { s with links := s.links.set l { u with qual := { m with good := 0 }, rx := rolledOver u.rx } } →
      exec (.linkMark l k none) s = .next (transmit t))
    ∧ (q.state = .suspect → bad = true ∨ fault = true →
      (q.bad + 1 ≤ p.grace →
        t = { s with links := s.links.set l { u with qual := { m with bad := q.bad + 1, good := 0 }, rx := rolledOver u.rx } } →
        exec (.linkMark l k none) s = .next (transmit t))
      ∧ (p.grace < q.bad + 1 → u.holdoff ≠ 0 →
        t = { s with
          links := s.links.set l { u with
            qual := { m with state := .failed, bad := q.bad + 1, good := 0, phase := none, announceSeen := false, loss := none,
                             hold := some (u.holdoff.toNat * 1250000) }
            rx := rolledOver (recordsCleared u.rx) }
          notices := raised (.link l .failed .suspect cause 1) s.notices } →
        exec (.linkMark l k none) s = .next (transmit t))
      ∧ (p.grace < q.bad + 1 → u.holdoff = 0 →
        t = { s with
          links := s.links.set l { u with
            qual := { m with state := .seek, bad := 0, good := 0, phase := none, lastInterval := none, announceSeen := false, loss := none,
                             hold := none }
            rx := rolledOver (recordsCleared u.rx) }
          notices := raised (.link l .seek .failed .holdoffDone 1) (raised (.link l .failed .suspect cause 1) s.notices) } →
        exec (.linkMark l k none) s = .next (transmit t))))

/-- A plain mark of the joined source in LOCKED, its qualifier VALID and the mark good, is counted: the time value and the steps since sync rise by one, the
interval enters the learned record, the outputs' widths count the step, every SEND link relays a plain mark with the byte of its position, and the qualifier
measures it (R1, R8, R10, R26, R28, R42, R43, R49, R122); its byte, if it carries one, is taken into message assembly after that (R25, R30). The second clause is a
bad mark that leaves the source selected, and any mark of a SUSPECT source that stays selected: each is counted and relayed in the same way, its interval enters
the learned record only when it lies within the tolerance, and its verdict moves the qualifier (R8, R10, R45, R47, R48). In ACQUIRING the core follows the selected source's marks for position only (R10): a plain mark raises
the steps since sync, a sync mark that ends an interval with no announce sets them to 0, here as a sync fault that makes the link SUSPECT, and each sets the ticks
since last step to 0; nothing is counted or relayed. -/
def Obligations.GoodMarkOfTheJoinedSourceIsCounted : Prop :=
  (∀ (l : LinkNo) (p : Plan) (b : Option Byte) (bs : List Byte) (s : State), activePlan s = some p → (link l s).dir = .receive → s.sel = { source := some l, joined := true } →
    s.core.state = .locked → s.core.valid = true → s.core.gen.running = false → s.core.steps < 4294967295 → s.outSet = some bs →
    AwaitsGoodMark p false (link l s).qual →
    exec (.linkMark l .plain b) s = .next (afterByte l b s { s with
      core := { s.core with
        time := s.core.time + 1, ticks := 0, steps := s.core.steps + 1,
        learned := (s.core.learned ++ [(link l s).qual.sinceMark]).drop (s.core.learned.length + 1 - 8),
        gen := { s.core.gen with elapsed := 0 } }
      pulses := s.pulses.map stepPulse
      links := markOnSendLinks { kind := .plain, byte := bs[s.core.steps]? } (s.links.set l { link l s with qual := { (link l s).qual with
        lastInterval := some (link l s).qual.sinceMark, sinceMark := 0, phase := (link l s).qual.phase.map (· + 1),
        loss := some (4 * p.nominal) } }) }))
  ∧ (∀ (l : LinkNo) (p : Plan) (b : Option Byte) (bs : List Byte) (bad fault : Bool) (cause : LinkCause) (q m moved : Qualifier) (told : NoticeUnit) (s t : State),
    activePlan s = some p → (link l s).dir = .receive → s.sel = { source := some l, joined := true } → s.core.state = .locked → s.core.valid = true →
    s.core.gen.running = false → s.core.steps < 4294967295 → s.outSet = some bs → q = (link l s).qual → (bad = false ↔ IntervalIsGood p q) →
    (fault = true ↔ PlainMarkIsFault q) → cause = (if bad then .badStep else .syncFault) → m = measuredPlain p bad fault q →
    (q.state = .valid ∧ (bad = true ∨ fault = true) ∧ choose p t = some l ∧ moved = { m with state := .suspect, bad := 1, good := 0 }
        ∧ told = raised (.link l .suspect .valid cause 1) s.notices
      ∨ q.state = .suspect ∧ (bad = true ∨ fault = true) ∧ q.bad + 1 ≤ p.grace ∧ moved = { m with bad := q.bad + 1, good := 0 } ∧ told = s.notices
      ∨ q.state = .suspect ∧ bad = false ∧ fault = false ∧ p.validity ≤ min (q.good + 1) 255 ∧ choose p t = some l
        ∧ moved = { m with state := .valid, bad := 0, good := min (q.good + 1) 255 } ∧ told = raised (.link l .valid .suspect .goodCount 1) s.notices
      ∨ q.state = .suspect ∧ bad = false ∧ fault = false ∧ min (q.good + 1) 255 < p.validity
        ∧ moved = { m with good := min (q.good + 1) 255 } ∧ told = s.notices) →
    t = { s with
      core := { s.core with
        time := s.core.time + 1, ticks := 0, steps := s.core.steps + 1,
        learned := if bad then s.core.learned else (s.core.learned ++ [q.sinceMark]).drop (s.core.learned.length + 1 - 8),
        gen := { s.core.gen with elapsed := 0 } }
      pulses := s.pulses.map stepPulse
      links := markOnSendLinks { kind := .plain, byte := bs[s.core.steps]? } (s.links.set l { link l s with qual := moved })
      notices := told } →
    exec (.linkMark l .plain b) s = .next (afterByte l b s t))
  ∧ (∀ (l : LinkNo) (p : Plan) (s : State), activePlan s = some p → (link l s).dir = .receive → s.sel = { source := some l, joined := false } →
    s.core.state = .acquiring →
    (AwaitsGoodMark p false (link l s).qual →
      exec (.linkMark l .plain none) s = .next (transmit { s with
        core := { s.core with ticks := 0, steps := min (s.core.steps + 1) 4294967295 }
        links := s.links.set l { link l s with qual := measuredPlain p false false (link l s).qual } }))
    ∧ (∀ k t, k ≠ .plain → (link l s).qual.state = .valid → (link l s).qual.phase.isSome → IntervalIsGood p (link l s).qual →
      (link l s).qual.announceSeen = false → (link l s).rx.msg = [] → (link l s).rx.annCur = none →
      ((link l s).rx.qualCur = none → (link l s).rx.qualLast = none) → choose p t = some l →
      t = { s with
        core := { s.core with ticks := 0, steps := 0 }
        links := s.links.set l { link l s with
          qual := { (link l s).qual with
            state := .suspect, bad := 1, good := 0, lastInterval := some (link l s).qual.sinceMark, sinceMark := 0, phase := some 0,
            intervalSps := some p.sps, loss := some (4 * p.nominal), syncFaults := min ((link l s).qual.syncFaults + 1) 65535 }
          rx := rolledOver (link l s).rx }
        notices := raised (.link l .suspect .valid .syncFault 1) s.notices } →
      exec (.linkMark l k none) s = .next (transmit t)))

/-- A sync mark of either kind of the selected source that ends an interval with an announce is the join (R11), out of ACQUIRING, HOLDOVER or FREE, and out of MASTER in
takeover under a revertive plan (R74 a): LOCKED, the announced value plus the link offset taken, time valid, the source joined, the sync's own work done at that
value, own grade and hops from the source's latest QUALITY, none counting as grade 4 and hops 14 (R19, R34), and a TIME notice with the jump, absent out of
ACQUIRING; a jump that is not 0 sets the outbound-realign flag, except out of ACQUIRING. Every SEND link emits the sync mark, and the link's qualifier and receiver
take it. Out of ACQUIRING that mark carries no realign, even when a release in ACQUIRING set the flag (R173; log entry 23). That the TIME notice carries the index
after the sync's rise is log entry 9. The last clause holds with entries due and a switch target held too: the join is a sync of the core (GeneratorStepTakesTheSync
says what every sync does), after which the receiver takes the mark. -/
def Obligations.SyncMarkWithAnnounceJoins : Prop :=
  (∀ (l : LinkNo) (k : MarkKind) (p : Plan) (a : Announce) (v : Time) (s : State), activePlan s = some p → (link l s).dir = .receive → k ≠ .plain →
    s.sel = { source := some l, joined := false } →
    (s.core.state = .acquiring ∨ s.core.state = .holdover ∨ s.core.state = .free
      ∨ (s.core.state = .master ∧ s.core.takeover = true ∧ p.revertive = true ∧ p.role ≠ .master)) →
    AwaitsGoodMark p true (link l s).qual → (link l s).rx.msg = [] → (link l s).rx.annCur = some a →
    ((link l s).rx.qualCur = none → (link l s).rx.qualLast = none) →
    v = a.time + (link l s).offset.signExtend 64 → dueEntries v s.sched.queue = [] → s.plans.held = none →
    (s.outSet.isSome ∨ mayEmit s.core = false) →
    ∃ t, exec (.linkMark l k none) s = .next (transmit t)
      ∧ t.core = { s.core with
          state := .locked, time := v, valid := true, takeover := false, realignPending := false, steps := 0, ticks := 0,
          syncIndex := s.core.syncIndex + 1, record := { final := v, valid := true }, grade := max 1 (gradeAndHops (link l s).rx.qualCur).1,
          hops := min 15 ((gradeAndHops (link l s).rx.qualCur).2 + 1), gen := { s.core.gen with running := false, elapsed := 0 },
          outRealign := t.core.outRealign, syncWork := none }
      ∧ (s.core.state ≠ .acquiring → v ≠ s.core.time + 1 → t.core.outRealign = some (s.core.syncIndex + 2))
      ∧ (s.core.state = .acquiring ∨ v = s.core.time + 1 →
          t.core.outRealign = if s.core.outRealign = some (s.core.syncIndex + 1) then none else s.core.outRealign)
      ∧ t.sel = { source := some l, joined := true } ∧ t.outSet = none ∧ t.plans = s.plans ∧ t.sched = s.sched
      ∧ t.pulses = s.pulses.map stepPulse ∧ t.capture = s.capture ∧ t.halt = s.halt ∧ t.channel = s.channel ∧ t.passing = s.passing ∧ t.caughtUp = s.caughtUp
      ∧ t.kept = s.kept ∧ t.edgeAt = s.edgeAt
      ∧ t.links = markOnSendLinks { kind := if s.core.outRealign = some (s.core.syncIndex + 1) then .syncRealign else .sync, byte := none }
          (s.links.set l (afterSyncMark p (link l s)))
      ∧ (s.core.state = .acquiring → CoreInv s.core →
          t.links = markOnSendLinks { kind := .sync, byte := none } (s.links.set l (afterSyncMark p (link l s))))
      ∧ t.notices = raised (.time .locked s.core.state (some l) t.core.grade t.core.hops
          (if s.core.state = .acquiring then none else some (v - (s.core.time + 1))) (s.core.syncIndex + 1) 1) s.notices)
  ∧ (∀ (l : LinkNo) (k : MarkKind) (p : Plan) (s m : State), activePlan s = some p → (link l s).dir = .receive → k ≠ .plain →
    s.sel = { source := some l, joined := false } →
    (s.core.state = .acquiring ∨ s.core.state = .holdover ∨ s.core.state = .free
      ∨ (s.core.state = .master ∧ s.core.takeover = true ∧ p.revertive = true ∧ p.role ≠ .master)) →
    AwaitsGoodMark p true (link l s).qual → (link l s).rx.msg = [] → (link l s).rx.annCur.isSome →
    m = { s with
      core := { s.core with gen := { s.core.gen with running := false, elapsed := 0 } }
      links := s.links.set l { link l s with qual := measuredSync p false false (link l s).qual } } →
    exec (.linkMark l k none) s
      = .next (endCatchUp s (transmit (catchUp false s (finishMark l k none (takeSync p (.join l) m))))))

/-- The time check at a sync mark of the joined source (R15): an announced value plus offset equal to the count reached passes; under REPORT a difference counts one
TIME_MISMATCH and the count stands; under RESYNC the expected value is taken, the jump is reported and the outbound-realign flag set. A realign (R16), at a mark
that carries one or while realign-pending is set, takes the expected value whatever the policy, clears realign-pending, and reports and flags a jump that is not 0.
Whatever the outcome, the sync is taken, every SEND link emits its mark, and the link's qualifier and receiver take the mark. The index that the TIME notice of a
jump carries is log entry 9, and the first clause leaves it open. The second clause is the mark that ends an interval with no announce, at the stage of the check:
the count reached stands, with realign-pending set when a realign is due. The last clause holds with entries due and a switch target held too: the mark is a sync of
the core (GeneratorStepTakesTheSync says what every sync does), after which the receiver takes it. -/
def Obligations.TimeCheckReportsOrResyncs : Prop :=
  (∀ (l : LinkNo) (k : MarkKind) (p : Plan) (a : Announce) (v : Time) (s : State), activePlan s = some p → (link l s).dir = .receive → k ≠ .plain →
    s.sel = { source := some l, joined := true } → s.core.state = .locked → s.core.valid = true → s.core.gen.running = false →
    AwaitsGoodMark p true (link l s).qual → (link l s).rx.msg = [] → (link l s).rx.annCur = some a →
    ((link l s).rx.qualCur = none → (link l s).rx.qualLast = none) → v = a.time + (link l s).offset.signExtend 64 → dueEntries v s.sched.queue = [] →
    dueEntries (s.core.time + 1) s.sched.queue = [] → s.plans.held = none → s.outSet.isSome →
    ∃ t, exec (.linkMark l k none) s = .next (transmit t)
      ∧ t.core = { s.core with
          time := t.core.time, steps := 0, ticks := 0, syncIndex := s.core.syncIndex + 1, record := { final := t.core.time, valid := true },
          learned := (s.core.learned ++ [(link l s).qual.sinceMark]).drop (s.core.learned.length + 1 - 8), realignPending := false,
          gen := { s.core.gen with elapsed := 0 }, outRealign := t.core.outRealign, syncWork := none }
      ∧ t.sel = s.sel ∧ t.plans = s.plans ∧ t.sched = s.sched ∧ t.passing = s.passing ∧ t.caughtUp = s.caughtUp ∧ t.kept = s.kept ∧ t.edgeAt = s.edgeAt
      ∧ t.outSet = none ∧ t.capture = s.capture ∧ t.halt = s.halt ∧ t.channel = s.channel ∧ t.pulses = s.pulses.map stepPulse
      ∧ t.links = markOnSendLinks { kind := if s.core.outRealign = some (s.core.syncIndex + 1) then .syncRealign else .sync, byte := none }
          (s.links.set l (afterSyncMark p (link l s)))
      ∧ (v = s.core.time + 1 → t.core.time = v ∧ t.notices = s.notices)
      ∧ (v ≠ s.core.time + 1 → p.policy = .report → k = .sync → s.core.realignPending = false →
          t.core.time = s.core.time + 1 ∧ t.notices = raised (.fault [(.timeMismatch, 1)]) s.notices)
      ∧ (v = s.core.time + 1 ∨ (p.policy = .report ∧ k = .sync ∧ s.core.realignPending = false) →
          t.core.outRealign = if s.core.outRealign = some (s.core.syncIndex + 1) then none else s.core.outRealign)
      ∧ (v ≠ s.core.time + 1 → p.policy = .resync ∨ k = .syncRealign ∨ s.core.realignPending = true →
          t.core.time = v ∧ t.core.outRealign = some (s.core.syncIndex + 2)
          ∧ ∃ i, t.notices = raised (.time .locked .locked (some l) s.core.grade s.core.hops (some (v - (s.core.time + 1))) i 1) s.notices))
  ∧ (∀ (p : Plan) (l : LinkNo) (realigns : Bool) (s : State), (link l s).rx.annCur = none →
      correct p (.mark l realigns) s =
        if realigns = true ∨ s.core.realignPending = true then { s with core := { s.core with realignPending := true } } else s)
  ∧ (∀ (l : LinkNo) (k : MarkKind) (p : Plan) (s m : State), activePlan s = some p → (link l s).dir = .receive → k ≠ .plain →
    s.sel = { source := some l, joined := true } → s.core.state = .locked → AwaitsGoodMark p true (link l s).qual → (link l s).rx.msg = [] →
    m = { s with
      core := { s.core with
        learned := (s.core.learned ++ [(link l s).qual.sinceMark]).drop (s.core.learned.length + 1 - 8), gen := { s.core.gen with elapsed := 0 } }
      links := s.links.set l { link l s with qual := measuredSync p false false (link l s).qual } } →
    exec (.linkMark l k none) s
      = .next (endCatchUp s (transmit (catchUp false s (finishMark l k none (takeSync p (.mark l (decide (k = .syncRealign))) m))))))

/-- Link messages on a link whose qualifier is FAILED, so that its marks are not measured (R25, R50). A byte begins a message by its type, goes on with one, or, of an
unknown type, counts one LINK_MESSAGE and sets the discard flag, under which every byte is dropped (R30). The byte that completes a message: one whose CRC-8 and
fields pass is accepted, a TIME_ANNOUNCE or a QUALITY into its record of the interval, and one whose CRC-8 fails or with a field out of range is discarded with one
LINK_MESSAGE counted; after either the receiver is in no message (R31). A sync mark discards a message in progress and a byte of its own, each counted once, and the
interval's records roll over (R32). The second clause is the byte of a plain mark on a link in any state, after the qualifier and the core have done their work:
the same taking of the byte, with a whole message that passes accepted (OrderIsInsertedOrCounted says it of an ORDER). The last clause is an accepted QUALITY of the joined source that leaves it usable: the core takes its grade and hops, and a
change of them raises a TIME notice; one that repeats grade and hops changes the record alone (R19, R34). -/
def Obligations.WholeMessageIsAcceptedOrCounted : Prop :=
  (∀ (l : LinkNo) (b : Byte) (p : Plan) (u : LinkUnit) (s : State), activePlan s = some p → u = link l s → u.dir = .receive → u.qual.state = .failed →
    s.sel.source ≠ some l → choose p s = s.sel.source →
    (∀ a : Announce, u.rx.msg ++ [b] = messageBytes (.announce a) →
      exec (.linkMark l .plain (some b)) s = .next (transmit { s with links := s.links.set l { u with
        rx := { u.rx with msg := [], annCur := some a }, qual := { u.qual with announceSeen := true } } }))
    ∧ (∀ q : Quality, q.grade ≤ 4 → q.hops ≤ 15 → (q.core = .locked ∨ q.core = .holdover ∨ q.core = .free ∨ q.core = .master) →
      u.rx.msg ++ [b] = messageBytes (.quality q) →
      exec (.linkMark l .plain (some b)) s = .next (transmit { s with links := s.links.set l { u with
        rx := { u.rx with msg := [], qualCur := some q } } }))
    ∧ (∀ (type : Byte) (bytes : List Byte), u.rx.msg = type :: bytes → messageLength type = some (bytes.length + 2) →
      crc8 (type :: bytes) ≠ b ∨ MessageOutOfRange (type :: bytes) →
      exec (.linkMark l .plain (some b)) s = .next (transmit { s with
        links := s.links.set l { u with rx := { u.rx with msg := [] } }
        notices := raised (.fault [(.linkMessage, 1)]) s.notices }))
    ∧ (∀ (type : Byte) (bytes : List Byte) (n : Nat), u.rx.msg = type :: bytes → messageLength type = some n → bytes.length + 2 < n →
      exec (.linkMark l .plain (some b)) s = .next (transmit { s with links := s.links.set l { u with rx := { u.rx with msg := u.rx.msg ++ [b] } } }))
    ∧ (u.rx.msg = [] →
      (u.rx.discard = true → exec (.linkMark l .plain (some b)) s = .next (transmit s))
      ∧ (u.rx.discard = false → messageLength b = none →
        exec (.linkMark l .plain (some b)) s = .next (transmit { s with
          links := s.links.set l { u with rx := { u.rx with discard := true } }
          notices := raised (.fault [(.linkMessage, 1)]) s.notices }))
      ∧ (u.rx.discard = false → (messageLength b).isSome →
        exec (.linkMark l .plain (some b)) s = .next (transmit { s with links := s.links.set l { u with rx := { u.rx with msg := [b] } } })))
    ∧ (∀ (k : MarkKind) (ob : Option Byte), k ≠ .plain →
      exec (.linkMark l k ob) s = .next (transmit { s with
        links := s.links.set l { u with rx := rolledOver u.rx }
        notices := (List.replicate ((if u.rx.msg = [] then 0 else 1) + if ob.isSome then 1 else 0) ()).foldl
          (fun n _ => raised (.fault [(.linkMessage, 1)]) n) s.notices })))
  ∧ (∀ (l : LinkNo) (b : Byte) (u : LinkUnit) (s : State), u = link l s →
    (∀ (type : Byte) (bytes : List Byte), u.rx.msg = type :: bytes → messageLength type = some (bytes.length + 2) →
      (∀ m, messageOf (type :: bytes ++ [b]) = some m →
        assemble l b s = acceptMessage l m { s with links := s.links.set l { u with rx := { u.rx with msg := [] } } })
      ∧ (crc8 (type :: bytes) ≠ b ∨ MessageOutOfRange (type :: bytes) →
        assemble l b s = { s with
          links := s.links.set l { u with rx := { u.rx with msg := [] } }
          notices := raised (.fault [(.linkMessage, 1)]) s.notices }))
    ∧ (∀ (type : Byte) (bytes : List Byte) (n : Nat), u.rx.msg = type :: bytes → messageLength type = some n → bytes.length + 2 < n →
      assemble l b s = { s with links := s.links.set l { u with rx := { u.rx with msg := u.rx.msg ++ [b] } } })
    ∧ (u.rx.msg = [] →
      (u.rx.discard = true → assemble l b s = s)
      ∧ (u.rx.discard = false → messageLength b = none →
        assemble l b s = { s with
          links := s.links.set l { u with rx := { u.rx with discard := true } }
          notices := raised (.fault [(.linkMessage, 1)]) s.notices })
      ∧ (u.rx.discard = false → (messageLength b).isSome →
        assemble l b s = { s with links := s.links.set l { u with rx := { u.rx with msg := [b] } } }))
    ∧ (∀ a : Announce, u.qual.state ≠ .off →
      acceptMessage l (.announce a) s = { s with links := s.links.set l { u with
        rx := { u.rx with annCur := some a }, qual := { u.qual with announceSeen := true } } }))
  ∧ (∀ (l : LinkNo) (p : Plan) (q : Quality) (s t : State), activePlan s = some p → s.sel = { source := some l, joined := true } → s.core.state = .locked →
    t = acceptMessage l (.quality q) s →
    (gradeAndHops (some q) = gradeAndHops (latestQuality (link l s).rx) → latestQuality (link l s).rx ≠ none →
      t = { s with links := s.links.set l { link l s with rx := { (link l s).rx with qualCur := some q } } })
    ∧ (gradeAndHops (some q) ≠ gradeAndHops (latestQuality (link l s).rx) ∨ latestQuality (link l s).rx = none → choose p t = some l →
      t = { s with
        links := s.links.set l { link l s with rx := { (link l s).rx with qualCur := some q } }
        core := { s.core with grade := max 1 q.grade, hops := min 15 (q.hops + 1) }
        notices := if (max 1 q.grade, min 15 (q.hops + 1)) = (s.core.grade, s.core.hops) then s.notices
          else raised (.time .locked .locked (some l) (max 1 q.grade) (min 15 (q.hops + 1)) none s.core.syncIndex 1) s.notices }))

/-- LOSS_TIMER_EXPIRY on a link that is not the selected source: in VALID or SUSPECT the losses rise, the qualifier is FAILED with its hold-off running in units of
10 ms (R39, log entry 21) or, where the hold-off is 0, SEEK at once with a second notice, and in QUALIFYING it enters SEEK; each clears the receiver's records and
raises a LINK notice with cause LOSS. HOLDOFF_TIMER_EXPIRY: a FAILED qualifier enters SEEK with its counts 0 and its records cleared, and raises a LINK notice with
cause HOLDOFF_DONE (R46, R49, R50, R174). The last clause is the loss of the joined source of a LOCKED follower with no valid learned record and no other usable
source: the core is FREE, and its generator counts at once every step whose instant has passed since the last counted mark, each in full, and goes on at the nominal
spacing (R7, R12, R72); the catch-up at the event's end is log entry 7, and the cores it passes, which an edge may find, log entry 31. -/
def Obligations.LinkTimersMoveTheQualifier : Prop :=
  (∀ (l : LinkNo) (p : Plan) (s : State), activePlan s = some p → (link l s).qual.loss = some 0 → s.sel.source ≠ some l → choose p s = s.sel.source →
      ((link l s).qual.state = .valid ∨ (link l s).qual.state = .suspect → (link l s).holdoff ≠ 0 →
        exec (.lossTimerExpiry l) s = .next (transmit { s with
          links := s.links.set l { link l s with
            qual := { (link l s).qual with
              state := .failed, good := 0, phase := none, announceSeen := false, loss := none,
              hold := some ((link l s).holdoff.toNat * 1250000), losses := min ((link l s).qual.losses + 1) 65535 }
            rx := recordsCleared (link l s).rx }
          notices := raised (.link l .failed (link l s).qual.state .loss 1) s.notices }))
      ∧ ((link l s).qual.state = .valid ∨ (link l s).qual.state = .suspect → (link l s).holdoff = 0 →
        exec (.lossTimerExpiry l) s = .next (transmit { s with
          links := s.links.set l { link l s with
            qual := { (link l s).qual with
              state := .seek, good := 0, bad := 0, phase := none, lastInterval := none, announceSeen := false, loss := none, hold := none,
              losses := min ((link l s).qual.losses + 1) 65535 }
            rx := recordsCleared (link l s).rx }
          notices := raised (.link l .seek .failed .holdoffDone 1) (raised (.link l .failed (link l s).qual.state .loss 1) s.notices) }))
      ∧ ((link l s).qual.state = .qualifying →
        exec (.lossTimerExpiry l) s = .next (transmit { s with
          links := s.links.set l { link l s with
            qual := { (link l s).qual with
              state := .seek, good := 0, bad := 0, phase := none, lastInterval := none, announceSeen := false, loss := none, hold := none }
            rx := recordsCleared (link l s).rx }
          notices := raised (.link l .seek .qualifying .loss 1) s.notices })))
  ∧ (∀ (l : LinkNo) (p : Plan) (s : State), activePlan s = some p → (link l s).qual.state = .failed → (link l s).qual.hold = some 0 →
      choose p s = s.sel.source →
      exec (.holdoffTimerExpiry l) s = .next (transmit { s with
        links := s.links.set l { link l s with
          qual := { (link l s).qual with
            state := .seek, good := 0, bad := 0, phase := none, lastInterval := none, announceSeen := false, loss := none, hold := none }
          rx := recordsCleared (link l s).rx }
        notices := raised (.link l .seek .failed .holdoffDone 1) s.notices }))
  ∧ (∀ (l : LinkNo) (p : Plan) (bs : List Byte) (n : Nat) (lost : LinkUnit) (at' : Nat → Core) (s u : State), activePlan s = some p → p.role = .follower →
      16 ≤ p.nominal → s.sel = { source := some l, joined := true } → s.core.state = .locked → s.core.valid = true → s.core.takeover = false →
      s.core.gen.running = false → s.core.learned.length < 8 → 0 < s.core.ticks → (link l s).qual.loss = some 0 →
      ((link l s).qual.state = .valid ∨ (link l s).qual.state = .suspect) → (link l s).holdoff ≠ 0 → (∀ m ∈ p.cands, m ≠ l → usable p s m = false) →
      s.outSet = some bs → n = s.core.gen.elapsed / p.nominal → s.core.steps + n < p.sps → p.sps ≤ 8192 →
      lost = { link l s with
        qual := { (link l s).qual with
          state := .failed, good := 0, phase := none, announceSeen := false, loss := none,
          hold := some ((link l s).holdoff.toNat * 1250000), losses := min ((link l s).qual.losses + 1) 65535 }
        rx := recordsCleared (link l s).rx } →
      (∀ i, at' i = { s.core with
        state := .free, grade := 4, time := s.core.time + BitVec.ofNat 64 i, steps := s.core.steps + i,
        ticks := if i = 0 then s.core.ticks else 0
        gen := { running := true, elapsed := s.core.gen.elapsed - i * p.nominal, spacing := p.nominal, fromRecord := false, cycle := 0 } }) →
      u = transmit { s with
        core := at' n
        passing := if n ≤ 1 then s.passing else (if s.caughtUp.isSome then [] else s.passing) ++ (List.range (n - 1)).map (fun i => at' (i + 1))
        caughtUp := if n ≤ 1 then s.caughtUp else none
        kept := s.kept + (n - 1)
        sel := { source := none, joined := false }
        links := (List.range n).foldl (fun v i => markOnSendLinks { kind := .plain, byte := bs[s.core.steps + i]? } v) (s.links.set l lost)
        pulses := (List.range n).foldl (fun v _ => v.map stepPulse) s.pulses
        notices := raised (.link l .failed (link l s).qual.state .loss 1)
          (raised (.time .free .locked none 4 s.core.hops none s.core.syncIndex 1) s.notices) } →
      exec (.lossTimerExpiry l) s = .next (if n ≤ 1 then u else { u with caughtUp := some u.toBlocks }))

/-! ## Selection and failover -/

/-- The usable-source test and the selection (R66, R69, R70): a candidate is usable when it is RECEIVE, VALID or the selected SUSPECT one, its grade within the worst
acceptable and its hops below 15, none counting as grade 4 and hops 14; a non-revertive plan keeps a usable selection and else takes the first usable candidate
or none, a revertive one always takes that. -/
def Obligations.SelectionFollowsThePlan : Prop :=
  ∀ (p : Plan) (s : State), activePlan s = some p →
    (∀ l, usable p s l = true ↔ l ∈ p.cands ∧ (link l s).dir = .receive
      ∧ ((link l s).qual.state = .valid ∨ ((link l s).qual.state = .suspect ∧ s.sel.source = some l))
      ∧ (match latestQuality (link l s).rx with
          | some q => q.grade ≤ p.worst ∧ q.hops < 15
          | none => 4 ≤ p.worst))
    ∧ (p.revertive = false → ∀ l, s.sel.source = some l → usable p s l = true → (reevaluate s).sel.source = some l)
    ∧ (p.revertive = false → (∀ l, s.sel.source = some l → usable p s l = false) → (reevaluate s).sel.source = p.cands.find? (usable p s))
    ∧ (p.revertive = true → (reevaluate s).sel.source = p.cands.find? (usable p s))

/-- Under a BACKUP or FOLLOWER plan (a MASTER plan has no candidate, and none is ever selected): a re-evaluation with the same outcome changes nothing. With another it
records the selection with the joined flag clear and raises a TIME notice, and the core
not in takeover acts on it (R12, R72, Table 4-5): LOCKED goes to MASTER in takeover under a BACKUP plan with no selection, and else to HOLDOVER with a valid learned record
and to FREE without; a backup in HOLDOVER or FREE left with no selection takes over; any other state is kept. At the entry to HOLDOVER the holdover sync count is 0
(R9); a generator that does not run starts, at the oldest interval of a valid record in HOLDOVER and at the nominal interval otherwise (R7); and the rest of the
core stands. -/
def Obligations.SelectionChangeMovesTheCore : Prop :=
  ∀ (p : Plan) (new : Option LinkNo) (s t : State), activePlan s = some p → new = choose p s → t = reevaluate s → p.role ≠ .master →
    (new = s.sel.source → t = s)
    ∧ (new ≠ s.sel.source →
      t = { s with
        sel := { source := new, joined := false }
        core := t.core
        notices := raised (.time t.core.state s.core.state new t.core.grade t.core.hops none t.core.syncIndex 1) s.notices }
      ∧ (s.core.state = .locked → s.core.takeover = false → ¬(p.role = .backup ∧ new = none) →
          (s.core.learned.length = 8 → t.core = { s.core with
            state := .holdover, grade := 3, holdoverCount := 0
            gen := if s.core.gen.running then s.core.gen
              else { s.core.gen with running := true, cycle := 0, spacing := s.core.learned.headD 0, fromRecord := true } })
          ∧ (s.core.learned.length ≠ 8 → t.core = { s.core with
            state := .free, grade := 4
            gen := if s.core.gen.running then s.core.gen else { s.core.gen with running := true, cycle := 0, spacing := p.nominal, fromRecord := false } }))
      ∧ (s.core.state = .locked ∨ s.core.state = .holdover ∨ s.core.state = .free → s.core.takeover = false → p.role = .backup → new = none →
          t.core = { s.core with
            state := .master, takeover := true, grade := 2, hops := 0, outRealign := some (carryingSync s.core)
            gen := if s.core.gen.running then s.core.gen else { s.core.gen with running := true, cycle := 0, spacing := p.nominal, fromRecord := false } })
      ∧ (s.core.state ≠ .locked → ¬((s.core.state = .holdover ∨ s.core.state = .free) ∧ p.role = .backup ∧ new = none) → t.core = s.core))

/-- Failover (R79 to R81): under a FOLLOWER plan, with HOLDOVER or FREE handed over, the first eligible plan of the fallback list becomes active by a switch, the
outbound-realign flag is set and a PLAN notice with cause FAILOVER is raised; with no eligible plan, or under another role or state, nothing changes. A plan is
eligible when it is LOADED, not active, no MASTER plan, and one of its candidates is RECEIVE and VALID within its own limits. A held switch target is cleared (R83):
one that is LOADED and not the active plan becomes active by a switch with cause ORDERED and no realign, and failover is not considered; with none, or with the
active plan held, failover is considered. A switch gives every link its direction, through OFF when it changes, with the LINK notices L0 to L5 (R24, R51, R52; log
entry 26); the marks up to a waiting switch sync still leave (R29; log entries 11 and 27); the selection is re-evaluated once, and the core acts on the change by
Table 5-2 (R13, R85, R86), with a TIME notice at a change of state, grade or hops, and where a core that was MASTER takes over (R73; log entry 22). -/
def Obligations.FailoverTakesTheFirstEligiblePlan : Prop :=
  (∀ (s : State) (n : PlanNo), eligible s n = true ↔ ∃ p, s.plans.records.get n = some p ∧ s.plans.active ≠ some n ∧ p.role ≠ .master
    ∧ ∃ l ∈ p.cands, (link l s).dir = .receive ∧ (link l s).qual.state = .valid
      ∧ (match latestQuality (link l s).rx with
          | some q => q.grade ≤ p.worst ∧ q.hops < 15
          | none => 4 ≤ p.worst))
  ∧ (∀ (p : Plan) (st : CoreState) (s : State), activePlan s = some p →
      ¬(p.role = .follower ∧ (st = .holdover ∨ st = .free)) ∨ (∀ n ∈ s.plans.fallback, eligible s n = false) → considerFailover st s = s)
  ∧ (∀ (p r : Plan) (st : CoreState) (before after : List PlanNo) (n : PlanNo) (s u : State), activePlan s = some p → p.role = .follower →
      (st = .holdover ∨ st = .free) → s.plans.fallback = before ++ n :: after → (∀ m ∈ before, eligible s m = false) → eligible s n = true →
      s.plans.records.get n = some r → u = switchTo n r s →
      considerFailover st s = { u with
        core := { u.core with outRealign := some (carryingSync u.core) }
        notices := raised (.plan (some n) s.plans.active .failover s.core.syncIndex) u.notices })
  ∧ (∀ (st : CoreState) (s u : State), u = { s with plans := { s.plans with held := none } } →
      (s.plans.held = none ∨ s.plans.held = s.plans.active → failoverController st s = considerFailover st u)
      ∧ (∀ n r, s.plans.held = some n → s.plans.active ≠ some n → s.plans.records.get n = some r →
          failoverController st s = { switchTo n r u with
            notices := raised (.plan (some n) s.plans.active .ordered s.core.syncIndex) (switchTo n r u).notices }))
  ∧ (∀ (n : PlanNo) (r : Plan) (s t w : State), t = switchTo n r s → w = setDirections r { s with plans := { s.plans with active := some n } } →
      t = corePlanChange r s.core.state (reevaluate w)
      ∧ w = { s with plans := { s.plans with active := some n }, links := w.links, notices := w.notices }
      ∧ (∀ l, (link l s).dir = r.dirs.get l → link l w = if r.dirs.get l = .receive ∧ (link l s).qual.phase = some 0
          then { link l s with qual := { (link l s).qual with intervalSps := some r.sps } } else link l s)
      ∧ (∀ l, (link l s).dir ≠ r.dirs.get l → link l w = { link l s with
          dir := r.dirs.get l
          rx := { msg := [], discard := false, annCur := none, annLast := none, qualCur := none, qualLast := none }
          qual := { (link l s).qual with
            state := if r.dirs.get l = .receive then .seek else .off
            good := 0, bad := 0, phase := none, lastInterval := none, announceSeen := false, loss := none, hold := none }
          pair := { (link l s).pair with waiting := untilLastSync (link l s).pair.waiting } })
      ∧ w.notices = allLinks.foldl (fun u l =>
          if (link l s).dir = r.dirs.get l then u
          else if (link l s).dir = .receive then raised (.link l .off (link l s).qual.state .direction 1) u
          else if r.dirs.get l = .receive then raised (.link l .seek .off .direction 1) u
          else u) s.notices)
  ∧ (∀ ms : List Mark, EndsWithSync (untilLastSync ms) ∧ untilLastSync ms <+: ms ∧ (EndsWithSync ms → untilLastSync ms = ms))
  ∧ (∀ (p : Plan) (before : CoreState) (s t : State), t = corePlanChange p before s → counting s.core.state →
      t = { s with
        core := t.core
        notices := if (before = .master ∧ t.core.takeover = true)
              ∨ (t.core.state, t.core.grade, t.core.hops) ≠ (s.core.state, s.core.grade, s.core.hops)
            then raised (.time t.core.state s.core.state s.sel.source t.core.grade t.core.hops none s.core.syncIndex 1) s.notices else s.notices }
      ∧ t.core = { s.core with
          state := t.core.state, takeover := t.core.takeover, grade := t.core.grade, hops := t.core.hops, holdoverCount := t.core.holdoverCount,
          outRealign := t.core.outRealign, gen := t.core.gen }
      ∧ (p.role = .master → (t.core.state, t.core.takeover, t.core.grade, t.core.hops) = (.master, false, 0, 0))
      ∧ (p.role ≠ .master → s.core.state = .locked → s.sel.source.isSome → s.sel.joined = true → t.core = { s.core with takeover := false })
      ∧ (p.role = .backup → s.sel.source = none → (t.core.state, t.core.takeover, t.core.grade, t.core.hops) = (.master, true, 2, 0)
          ∧ t.core.outRealign = some (carryingSync s.core))
      ∧ (p.role = .follower ∨ (p.role = .backup ∧ s.sel.source.isSome) →
          ¬(s.core.state = .locked ∧ s.sel.source.isSome ∧ s.sel.joined = true) →
          (t.core.state, t.core.holdoverCount) = aloneState s.core.state s.core.learned.length s.core.holdoverCount
          ∧ t.core.takeover = false ∧ t.core.hops = s.core.hops ∧ t.core.grade = if t.core.state = .holdover then 3 else 4)
      ∧ (¬(p.role = .backup ∧ s.sel.source = none) → t.core.outRealign = s.core.outRealign)
      ∧ (t.core.state ≠ .holdover → t.core.holdoverCount = s.core.holdoverCount)
      ∧ (s.core.gen.running = true ∨ t.core.state = .locked → t.core.gen = s.core.gen)
      ∧ (s.core.gen.running = false → t.core.state ≠ .locked →
          t.core.gen = if (t.core.state = .holdover ∨ t.core.state = .free) ∧ s.core.learned.length = 8
            then { s.core.gen with running := true, cycle := 0, spacing := s.core.learned.headD 0, fromRecord := true }
            else { s.core.gen with running := true, cycle := 0, spacing := p.nominal, fromRecord := false }))

/-! ## The internal generator -/

/-- GENERATOR_STEP of a MASTER, HOLDOVER or FREE core whose next step is due and no sync: the time value and the steps since sync rise by one, the next step falls
one interval after this one, nominal in MASTER and by the learned record in HOLDOVER and FREE where that is valid, the cycle position moves on after a learned
interval, the outputs' widths count the step, and every SEND link emits a plain mark with the byte of its position (R1, R3, R7, R26, R28, R122). The first step of an
interval, with no set composed, composes the set first, and its mark carries the byte of its position in that set: the first byte when it is the step after the sync
(R27, R28, R97). -/
def Obligations.GeneratorStepCountsOnePlainStep : Prop :=
  ∀ (p : Plan) (bs : List Byte) (g : Generator) (s u : State), activePlan s = some p →
    (s.core.state = .master ∨ s.core.state = .holdover ∨ s.core.state = .free) → s.core.valid = true → s.core.gen.running = true →
    s.core.gen.spacing ≤ s.core.gen.elapsed → g.elapsed = s.core.gen.elapsed - s.core.gen.spacing → NextInterval p s.core g → g.elapsed < g.spacing →
    p.sps ≤ 8192 → s.core.steps + 1 < p.sps → u = (if s.outSet = none then compose s else s) → u.outSet = some bs →
    exec .generatorStep s = .next (transmit { u with
      core := { s.core with time := s.core.time + 1, ticks := 0, steps := s.core.steps + 1, gen := g }
      pulses := s.pulses.map stepPulse
      links := markOnSendLinks { kind := .plain, byte := bs[s.core.steps]? } s.links })

/-- GENERATOR_STEP that brings the steps since sync to the SPS or beyond is a sync (R3, R14). The time value rises by one, the steps since sync are 0, the sync index
rises, and a realign arranged for this sync leaves on its marks and is cleared; in HOLDOVER the holdover sync count rises, to at most 65535 (log entry 34: the
model's choice), and where it reaches a limit other than 0 the core is FREE with grade 4, HOLDOVER_EXPIRED is counted and a TIME notice raised (R9), which carries the
index after the rise (log entry 9: DEDUCED). The actions fire at that time, against the sync record as it stood before
this sync and with the active plan's SPS (R14 e, R99); the value after them is the final value recorded, and the set of the interval is done with (R14 f, R27), one not composed before being composed at the sync first (log entry 12: DEDUCED); every
SEND link emits the mark; and the failover controller is handed the core's state (R14 g, R80, R83). The second clause is the same with no entry due, no target held
and no failover to consider, where nothing else changes. The third says of every sync, whatever began it, that the firing and the failover controller come after the
check, the realign or the join, with the same arguments; that a join's TIME notice stands before the controller is log entry 29. -/
def Obligations.GeneratorStepTakesTheSync : Prop :=
  (∀ (p : Plan) (g : Generator) (count : Nat) (expired : Bool) (s u w f e r : State), activePlan s = some p →
    (s.core.state = .master ∨ s.core.state = .holdover ∨ s.core.state = .free) → s.core.valid = true →
    s.core.gen.running = true → s.core.gen.spacing ≤ s.core.gen.elapsed → g.elapsed = s.core.gen.elapsed - s.core.gen.spacing →
    NextInterval p s.core g → g.elapsed < g.spacing → p.sps ≤ s.core.steps + 1 → u = (if s.outSet = none then compose s else s) →
    count = (if s.core.state = .holdover then min (s.core.holdoverCount + 1) 65535 else s.core.holdoverCount) →
    expired = decide (s.core.state = .holdover ∧ p.limit ≠ 0 ∧ p.limit ≤ count) →
    w = { u with
      core := { s.core with
        time := s.core.time + 1, ticks := 0, steps := 0, syncIndex := s.core.syncIndex + 1, syncWork := some (s.core.syncIndex + 1),
        outRealign := if s.core.outRealign = some (s.core.syncIndex + 1) then none else s.core.outRealign,
        holdoverCount := count, state := if expired then .free else s.core.state, grade := if expired then 4 else s.core.grade, gen := g }
      pulses := s.pulses.map stepPulse
      notices := if expired then raised (.time .free .holdover s.sel.source 4 s.core.hops none (s.core.syncIndex + 1) 1)
          (raised (.fault [(.holdoverExpired, 1)]) s.notices) else s.notices } →
    f = fire (s.core.time + 1) s.core.record p.sps w →
    e = { f with
      core := { f.core with record := { final := f.core.time, valid := true } }
      outSet := none
      links := markOnSendLinks
        { kind := if s.core.outRealign = some (s.core.syncIndex + 1) then .syncRealign else .sync, byte := none } f.links } →
    r = failoverController e.core.state e →
    exec .generatorStep s = .next (transmit { r with core := { r.core with syncWork := none } }))
  ∧ (∀ (p : Plan) (bs : List Byte) (g : Generator) (count : Nat) (expired : Bool) (s : State), activePlan s = some p →
    (s.core.state = .master ∨ s.core.state = .holdover ∨ s.core.state = .free) →
    (s.core.state = .master ∨ p.role ≠ .follower ∨ s.plans.fallback = []) → s.core.valid = true →
    s.core.gen.running = true → s.core.gen.spacing ≤ s.core.gen.elapsed → g.elapsed = s.core.gen.elapsed - s.core.gen.spacing →
    NextInterval p s.core g → g.elapsed < g.spacing →
    p.sps ≤ s.core.steps + 1 → s.outSet = some bs → dueEntries (s.core.time + 1) s.sched.queue = [] → s.plans.held = none → s.core.syncWork = none →
    count = (if s.core.state = .holdover then min (s.core.holdoverCount + 1) 65535 else s.core.holdoverCount) →
    expired = decide (s.core.state = .holdover ∧ p.limit ≠ 0 ∧ p.limit ≤ count) →
    exec .generatorStep s = .next (transmit { s with
      core := { s.core with
        time := s.core.time + 1, ticks := 0, steps := 0, syncIndex := s.core.syncIndex + 1,
        record := { final := s.core.time + 1, valid := true },
        outRealign := if s.core.outRealign = some (s.core.syncIndex + 1) then none else s.core.outRealign,
        holdoverCount := count, state := if expired then .free else s.core.state, grade := if expired then 4 else s.core.grade, gen := g }
      outSet := none
      pulses := s.pulses.map stepPulse
      links := markOnSendLinks
        { kind := if s.core.outRealign = some (s.core.syncIndex + 1) then .syncRealign else .sync, byte := none } s.links
      notices := if expired then raised (.time .free .holdover s.sel.source 4 s.core.hops none (s.core.syncIndex + 1) 1)
          (raised (.fault [(.holdoverExpired, 1)]) s.notices) else s.notices }))
  ∧ (∀ (p : Plan) (cause : SyncCause) (s b w f e r : State), b = composeIfDue s → w = correct p cause (beginSync b) →
    f = fire w.core.time s.core.record p.sps (boundary p w) →
    e = reportJoin cause s.core.state (s.core.time + 1) w.core.time (emit
      { kind := if s.core.outRealign = some (s.core.syncIndex + 1) then .syncRealign else .sync, byte := none }
      { f with core := { f.core with record := { final := f.core.time, valid := true } }, outSet := none }) →
    r = failoverController e.core.state e →
    takeSync p cause s = { r with core := { r.core with syncWork := none } })

/-! ## Invariants -/

/-- Every invariant below holds right after reset. -/
def Obligations.ResetHoldsTheInvariants : Prop :=
  ChannelInv State.reset.channel ∧ NoticeInv State.reset.notices ∧ CoreInv State.reset.core ∧ PlanInv State.reset ∧ ScheduleInv State.reset.sched
    ∧ LineInv State.reset ∧ ∀ l, LinkInv (link l State.reset)

/-- The channel's lists keep their capacities, each request its reserved slot, the held bytes the beginning of a frame, and the frame timer runs exactly while bytes
are held: every step keeps that (R129, R130, R134, R136). -/
def Obligations.StepKeepsTheChannelInvariant : Prop :=
  ∀ s t : State, ChannelInv s.channel → step s = .next t → ChannelInv t.channel

/-- At most one unsent notice a key, a window of at most 4 with consecutive numbers, a resend list out of it, and a silent unit while QUIET: every step keeps that
(R162, R166, R168, R177). -/
def Obligations.StepKeepsTheNoticeInvariant : Prop :=
  ∀ s t : State, NoticeInv s.notices → step s = .next t → NoticeInv t.notices

/-- The generator runs exactly in HOLDOVER, FREE and MASTER, time is valid wherever steps are counted, a state is remembered exactly in HALTED, grade and hops follow
the state, the learned record holds at most 8 intervals and none in IDLE, and no realign is arranged for a join out of ACQUIRING: every step keeps that (R2, R7, R8,
R19, R20, R22, R173; log entry 23). -/
def Obligations.StepKeepsTheCoreInvariant : Prop :=
  ∀ s t : State, CoreInv s.core → step s = .next t → CoreInv t.core

/-- An active, LOADED plan exactly outside IDLE, link directions by that plan, qualifiers OFF exactly where a link is not RECEIVE, a selected source that is VALID or
SUSPECT, and takeover under a BACKUP plan only: every step keeps that (R12, R23, R46, R57, R67). -/
def Obligations.StepKeepsThePlanInvariant : Prop :=
  ∀ s t : State, PlanInv s → CoreInv s.core → step s = .next t → PlanInv t

/-- At most 32 entries in order of due, no action id and no order id held twice, at most 16 spent ids, none of them held: every step keeps that (R90, R91, R110). -/
def Obligations.StepKeepsTheScheduleInvariant : Prop :=
  ∀ s t : State, ScheduleInv s.sched → step s = .next t → ScheduleInv t.sched

/-- At most 64 capture records, a gap of at most 65535 and no width on an inactive output: every step keeps that; and each link keeps a receiver that is empty unless
it is RECEIVE, marks waiting only while it is SEND or up to the switch sync at which it ceased to be (R29; log entry 11), and a mark on its pair for at most 4 ticks (R24, R26,
R116, Table 7-3). -/
def Obligations.StepKeepsTheLineAndLinkInvariants : Prop :=
  ∀ s t : State, step s = .next t →
    (LineInv s → LineInv t) ∧ ((∀ l, LinkInv (link l s)) → ∀ l, LinkInv (link l t))

/-- What a sender puts on the marks a receiver reads back: every link message whose fields are in the ranges of section 2.6 is read from its bytes as itself, every
field at every value (R31, R35, R36, R37, R180). -/
def Obligations.LinkMessageIsReadBack : Prop :=
  (∀ a : Announce, messageOf (messageBytes (.announce a)) = some (.announce a))
  ∧ (∀ q : Quality, q.grade ≤ 4 → q.hops ≤ 15 → (q.core = .locked ∨ q.core = .holdover ∨ q.core = .free ∨ q.core = .master) →
      messageOf (messageBytes (.quality q)) = some (.quality q))
  ∧ (∀ o : Order, o.id ≠ 0 → (∀ out w q, o.action = .pulse out w q → 1 ≤ w ∧ w ≤ 65535 ∧ q ≤ 65535) →
      messageOf (messageBytes (.order o)) = some (.order o))

end StatementsOfTheBlock
end

