-- ==== Sys2Proof/Laws/State.lean ====
section
/-! SUPPORT. One lemma for each field of State under each named update: what the update leaves and what it writes, so that no later proof unfolds a record
update. -/

namespace Sys2Proof.Machine

/-! ## setCore -/

@[simp] theorem setCore_pending (c : Core) (s : State) : (setCore c s).pending = s.pending := rfl
@[simp] theorem setCore_choices (c : Core) (s : State) : (setCore c s).choices = s.choices := rfl
@[simp] theorem setCore_passing (c : Core) (s : State) : (setCore c s).passing = s.passing := rfl
@[simp] theorem setCore_caughtUp (c : Core) (s : State) : (setCore c s).caughtUp = s.caughtUp := rfl
@[simp] theorem setCore_kept (c : Core) (s : State) : (setCore c s).kept = s.kept := rfl
@[simp] theorem setCore_edgeAt (c : Core) (s : State) : (setCore c s).edgeAt = s.edgeAt := rfl
@[simp] theorem setCore_core (c : Core) (s : State) : (setCore c s).core = c := rfl
@[simp] theorem setCore_halt (c : Core) (s : State) : (setCore c s).halt = s.halt := rfl
@[simp] theorem setCore_links (c : Core) (s : State) : (setCore c s).links = s.links := rfl
@[simp] theorem setCore_outSet (c : Core) (s : State) : (setCore c s).outSet = s.outSet := rfl
@[simp] theorem setCore_plans (c : Core) (s : State) : (setCore c s).plans = s.plans := rfl
@[simp] theorem setCore_sel (c : Core) (s : State) : (setCore c s).sel = s.sel := rfl
@[simp] theorem setCore_sched (c : Core) (s : State) : (setCore c s).sched = s.sched := rfl
@[simp] theorem setCore_capture (c : Core) (s : State) : (setCore c s).capture = s.capture := rfl
@[simp] theorem setCore_pulses (c : Core) (s : State) : (setCore c s).pulses = s.pulses := rfl
@[simp] theorem setCore_channel (c : Core) (s : State) : (setCore c s).channel = s.channel := rfl
@[simp] theorem setCore_notices (c : Core) (s : State) : (setCore c s).notices = s.notices := rfl

/-! ## setLink -/

@[simp] theorem setLink_pending (l : LinkNo) (u : LinkUnit) (s : State) : (setLink l u s).pending = s.pending := rfl
@[simp] theorem setLink_choices (l : LinkNo) (u : LinkUnit) (s : State) : (setLink l u s).choices = s.choices := rfl
@[simp] theorem setLink_passing (l : LinkNo) (u : LinkUnit) (s : State) : (setLink l u s).passing = s.passing := rfl
@[simp] theorem setLink_caughtUp (l : LinkNo) (u : LinkUnit) (s : State) : (setLink l u s).caughtUp = s.caughtUp := rfl
@[simp] theorem setLink_kept (l : LinkNo) (u : LinkUnit) (s : State) : (setLink l u s).kept = s.kept := rfl
@[simp] theorem setLink_edgeAt (l : LinkNo) (u : LinkUnit) (s : State) : (setLink l u s).edgeAt = s.edgeAt := rfl
@[simp] theorem setLink_core (l : LinkNo) (u : LinkUnit) (s : State) : (setLink l u s).core = s.core := rfl
@[simp] theorem setLink_halt (l : LinkNo) (u : LinkUnit) (s : State) : (setLink l u s).halt = s.halt := rfl
@[simp] theorem setLink_links (l : LinkNo) (u : LinkUnit) (s : State) : (setLink l u s).links = s.links.set l u := rfl
@[simp] theorem setLink_outSet (l : LinkNo) (u : LinkUnit) (s : State) : (setLink l u s).outSet = s.outSet := rfl
@[simp] theorem setLink_plans (l : LinkNo) (u : LinkUnit) (s : State) : (setLink l u s).plans = s.plans := rfl
@[simp] theorem setLink_sel (l : LinkNo) (u : LinkUnit) (s : State) : (setLink l u s).sel = s.sel := rfl
@[simp] theorem setLink_sched (l : LinkNo) (u : LinkUnit) (s : State) : (setLink l u s).sched = s.sched := rfl
@[simp] theorem setLink_capture (l : LinkNo) (u : LinkUnit) (s : State) : (setLink l u s).capture = s.capture := rfl
@[simp] theorem setLink_pulses (l : LinkNo) (u : LinkUnit) (s : State) : (setLink l u s).pulses = s.pulses := rfl
@[simp] theorem setLink_channel (l : LinkNo) (u : LinkUnit) (s : State) : (setLink l u s).channel = s.channel := rfl
@[simp] theorem setLink_notices (l : LinkNo) (u : LinkUnit) (s : State) : (setLink l u s).notices = s.notices := rfl

/-! ## setQual -/

@[simp] theorem setQual_pending (l : LinkNo) (q : Qualifier) (s : State) : (setQual l q s).pending = s.pending := rfl
@[simp] theorem setQual_choices (l : LinkNo) (q : Qualifier) (s : State) : (setQual l q s).choices = s.choices := rfl
@[simp] theorem setQual_passing (l : LinkNo) (q : Qualifier) (s : State) : (setQual l q s).passing = s.passing := rfl
@[simp] theorem setQual_caughtUp (l : LinkNo) (q : Qualifier) (s : State) : (setQual l q s).caughtUp = s.caughtUp := rfl
@[simp] theorem setQual_kept (l : LinkNo) (q : Qualifier) (s : State) : (setQual l q s).kept = s.kept := rfl
@[simp] theorem setQual_edgeAt (l : LinkNo) (q : Qualifier) (s : State) : (setQual l q s).edgeAt = s.edgeAt := rfl
@[simp] theorem setQual_core (l : LinkNo) (q : Qualifier) (s : State) : (setQual l q s).core = s.core := rfl
@[simp] theorem setQual_halt (l : LinkNo) (q : Qualifier) (s : State) : (setQual l q s).halt = s.halt := rfl
@[simp] theorem setQual_links (l : LinkNo) (q : Qualifier) (s : State) : (setQual l q s).links = s.links.set l { link l s with qual := q } := rfl
@[simp] theorem setQual_outSet (l : LinkNo) (q : Qualifier) (s : State) : (setQual l q s).outSet = s.outSet := rfl
@[simp] theorem setQual_plans (l : LinkNo) (q : Qualifier) (s : State) : (setQual l q s).plans = s.plans := rfl
@[simp] theorem setQual_sel (l : LinkNo) (q : Qualifier) (s : State) : (setQual l q s).sel = s.sel := rfl
@[simp] theorem setQual_sched (l : LinkNo) (q : Qualifier) (s : State) : (setQual l q s).sched = s.sched := rfl
@[simp] theorem setQual_capture (l : LinkNo) (q : Qualifier) (s : State) : (setQual l q s).capture = s.capture := rfl
@[simp] theorem setQual_pulses (l : LinkNo) (q : Qualifier) (s : State) : (setQual l q s).pulses = s.pulses := rfl
@[simp] theorem setQual_channel (l : LinkNo) (q : Qualifier) (s : State) : (setQual l q s).channel = s.channel := rfl
@[simp] theorem setQual_notices (l : LinkNo) (q : Qualifier) (s : State) : (setQual l q s).notices = s.notices := rfl

/-! ## setRx -/

@[simp] theorem setRx_pending (l : LinkNo) (rx : Receiver) (s : State) : (setRx l rx s).pending = s.pending := rfl
@[simp] theorem setRx_choices (l : LinkNo) (rx : Receiver) (s : State) : (setRx l rx s).choices = s.choices := rfl
@[simp] theorem setRx_passing (l : LinkNo) (rx : Receiver) (s : State) : (setRx l rx s).passing = s.passing := rfl
@[simp] theorem setRx_caughtUp (l : LinkNo) (rx : Receiver) (s : State) : (setRx l rx s).caughtUp = s.caughtUp := rfl
@[simp] theorem setRx_kept (l : LinkNo) (rx : Receiver) (s : State) : (setRx l rx s).kept = s.kept := rfl
@[simp] theorem setRx_edgeAt (l : LinkNo) (rx : Receiver) (s : State) : (setRx l rx s).edgeAt = s.edgeAt := rfl
@[simp] theorem setRx_core (l : LinkNo) (rx : Receiver) (s : State) : (setRx l rx s).core = s.core := rfl
@[simp] theorem setRx_halt (l : LinkNo) (rx : Receiver) (s : State) : (setRx l rx s).halt = s.halt := rfl
@[simp] theorem setRx_links (l : LinkNo) (rx : Receiver) (s : State) : (setRx l rx s).links = s.links.set l { link l s with rx := rx } := rfl
@[simp] theorem setRx_outSet (l : LinkNo) (rx : Receiver) (s : State) : (setRx l rx s).outSet = s.outSet := rfl
@[simp] theorem setRx_plans (l : LinkNo) (rx : Receiver) (s : State) : (setRx l rx s).plans = s.plans := rfl
@[simp] theorem setRx_sel (l : LinkNo) (rx : Receiver) (s : State) : (setRx l rx s).sel = s.sel := rfl
@[simp] theorem setRx_sched (l : LinkNo) (rx : Receiver) (s : State) : (setRx l rx s).sched = s.sched := rfl
@[simp] theorem setRx_capture (l : LinkNo) (rx : Receiver) (s : State) : (setRx l rx s).capture = s.capture := rfl
@[simp] theorem setRx_pulses (l : LinkNo) (rx : Receiver) (s : State) : (setRx l rx s).pulses = s.pulses := rfl
@[simp] theorem setRx_channel (l : LinkNo) (rx : Receiver) (s : State) : (setRx l rx s).channel = s.channel := rfl
@[simp] theorem setRx_notices (l : LinkNo) (rx : Receiver) (s : State) : (setRx l rx s).notices = s.notices := rfl

/-! ## raise -/

@[simp] theorem raise_pending (n : Notice) (s : State) : (raise n s).pending = s.pending := rfl
@[simp] theorem raise_choices (n : Notice) (s : State) : (raise n s).choices = s.choices := rfl
@[simp] theorem raise_passing (n : Notice) (s : State) : (raise n s).passing = s.passing := rfl
@[simp] theorem raise_caughtUp (n : Notice) (s : State) : (raise n s).caughtUp = s.caughtUp := rfl
@[simp] theorem raise_kept (n : Notice) (s : State) : (raise n s).kept = s.kept := rfl
@[simp] theorem raise_edgeAt (n : Notice) (s : State) : (raise n s).edgeAt = s.edgeAt := rfl
@[simp] theorem raise_core (n : Notice) (s : State) : (raise n s).core = s.core := rfl
@[simp] theorem raise_halt (n : Notice) (s : State) : (raise n s).halt = s.halt := rfl
@[simp] theorem raise_links (n : Notice) (s : State) : (raise n s).links = s.links := rfl
@[simp] theorem raise_outSet (n : Notice) (s : State) : (raise n s).outSet = s.outSet := rfl
@[simp] theorem raise_plans (n : Notice) (s : State) : (raise n s).plans = s.plans := rfl
@[simp] theorem raise_sel (n : Notice) (s : State) : (raise n s).sel = s.sel := rfl
@[simp] theorem raise_sched (n : Notice) (s : State) : (raise n s).sched = s.sched := rfl
@[simp] theorem raise_capture (n : Notice) (s : State) : (raise n s).capture = s.capture := rfl
@[simp] theorem raise_pulses (n : Notice) (s : State) : (raise n s).pulses = s.pulses := rfl
@[simp] theorem raise_channel (n : Notice) (s : State) : (raise n s).channel = s.channel := rfl
@[simp] theorem raise_notices (n : Notice) (s : State) : (raise n s).notices = raised n s.notices := rfl

/-! ## raiseFault -/

@[simp] theorem raiseFault_pending (c : FaultCause) (s : State) : (raiseFault c s).pending = s.pending := rfl
@[simp] theorem raiseFault_choices (c : FaultCause) (s : State) : (raiseFault c s).choices = s.choices := rfl
@[simp] theorem raiseFault_passing (c : FaultCause) (s : State) : (raiseFault c s).passing = s.passing := rfl
@[simp] theorem raiseFault_caughtUp (c : FaultCause) (s : State) : (raiseFault c s).caughtUp = s.caughtUp := rfl
@[simp] theorem raiseFault_kept (c : FaultCause) (s : State) : (raiseFault c s).kept = s.kept := rfl
@[simp] theorem raiseFault_edgeAt (c : FaultCause) (s : State) : (raiseFault c s).edgeAt = s.edgeAt := rfl
@[simp] theorem raiseFault_core (c : FaultCause) (s : State) : (raiseFault c s).core = s.core := rfl
@[simp] theorem raiseFault_halt (c : FaultCause) (s : State) : (raiseFault c s).halt = s.halt := rfl
@[simp] theorem raiseFault_links (c : FaultCause) (s : State) : (raiseFault c s).links = s.links := rfl
@[simp] theorem raiseFault_outSet (c : FaultCause) (s : State) : (raiseFault c s).outSet = s.outSet := rfl
@[simp] theorem raiseFault_plans (c : FaultCause) (s : State) : (raiseFault c s).plans = s.plans := rfl
@[simp] theorem raiseFault_sel (c : FaultCause) (s : State) : (raiseFault c s).sel = s.sel := rfl
@[simp] theorem raiseFault_sched (c : FaultCause) (s : State) : (raiseFault c s).sched = s.sched := rfl
@[simp] theorem raiseFault_capture (c : FaultCause) (s : State) : (raiseFault c s).capture = s.capture := rfl
@[simp] theorem raiseFault_pulses (c : FaultCause) (s : State) : (raiseFault c s).pulses = s.pulses := rfl
@[simp] theorem raiseFault_channel (c : FaultCause) (s : State) : (raiseFault c s).channel = s.channel := rfl
@[simp] theorem raiseFault_notices (c : FaultCause) (s : State) : (raiseFault c s).notices = raised (.fault [(c, 1)]) s.notices := rfl

/-! ## raiseTime -/

@[simp] theorem raiseTime_pending (p : CoreState) (j : Option Time) (s : State) : (raiseTime p j s).pending = s.pending := rfl
@[simp] theorem raiseTime_choices (p : CoreState) (j : Option Time) (s : State) : (raiseTime p j s).choices = s.choices := rfl
@[simp] theorem raiseTime_passing (p : CoreState) (j : Option Time) (s : State) : (raiseTime p j s).passing = s.passing := rfl
@[simp] theorem raiseTime_caughtUp (p : CoreState) (j : Option Time) (s : State) : (raiseTime p j s).caughtUp = s.caughtUp := rfl
@[simp] theorem raiseTime_kept (p : CoreState) (j : Option Time) (s : State) : (raiseTime p j s).kept = s.kept := rfl
@[simp] theorem raiseTime_edgeAt (p : CoreState) (j : Option Time) (s : State) : (raiseTime p j s).edgeAt = s.edgeAt := rfl
@[simp] theorem raiseTime_core (p : CoreState) (j : Option Time) (s : State) : (raiseTime p j s).core = s.core := rfl
@[simp] theorem raiseTime_halt (p : CoreState) (j : Option Time) (s : State) : (raiseTime p j s).halt = s.halt := rfl
@[simp] theorem raiseTime_links (p : CoreState) (j : Option Time) (s : State) : (raiseTime p j s).links = s.links := rfl
@[simp] theorem raiseTime_outSet (p : CoreState) (j : Option Time) (s : State) : (raiseTime p j s).outSet = s.outSet := rfl
@[simp] theorem raiseTime_plans (p : CoreState) (j : Option Time) (s : State) : (raiseTime p j s).plans = s.plans := rfl
@[simp] theorem raiseTime_sel (p : CoreState) (j : Option Time) (s : State) : (raiseTime p j s).sel = s.sel := rfl
@[simp] theorem raiseTime_sched (p : CoreState) (j : Option Time) (s : State) : (raiseTime p j s).sched = s.sched := rfl
@[simp] theorem raiseTime_capture (p : CoreState) (j : Option Time) (s : State) : (raiseTime p j s).capture = s.capture := rfl
@[simp] theorem raiseTime_pulses (p : CoreState) (j : Option Time) (s : State) : (raiseTime p j s).pulses = s.pulses := rfl
@[simp] theorem raiseTime_channel (p : CoreState) (j : Option Time) (s : State) : (raiseTime p j s).channel = s.channel := rfl
@[simp] theorem raiseTime_notices (p : CoreState) (j : Option Time) (s : State) : (raiseTime p j s).notices = raised (.time s.core.state p s.sel.source s.core.grade s.core.hops j s.core.syncIndex 1) s.notices := rfl

/-! ## raiseLink -/

@[simp] theorem raiseLink_pending (l : LinkNo) (p : QualState) (c : LinkCause) (s : State) : (raiseLink l p c s).pending = s.pending := rfl
@[simp] theorem raiseLink_choices (l : LinkNo) (p : QualState) (c : LinkCause) (s : State) : (raiseLink l p c s).choices = s.choices := rfl
@[simp] theorem raiseLink_passing (l : LinkNo) (p : QualState) (c : LinkCause) (s : State) : (raiseLink l p c s).passing = s.passing := rfl
@[simp] theorem raiseLink_caughtUp (l : LinkNo) (p : QualState) (c : LinkCause) (s : State) : (raiseLink l p c s).caughtUp = s.caughtUp := rfl
@[simp] theorem raiseLink_kept (l : LinkNo) (p : QualState) (c : LinkCause) (s : State) : (raiseLink l p c s).kept = s.kept := rfl
@[simp] theorem raiseLink_edgeAt (l : LinkNo) (p : QualState) (c : LinkCause) (s : State) : (raiseLink l p c s).edgeAt = s.edgeAt := rfl
@[simp] theorem raiseLink_core (l : LinkNo) (p : QualState) (c : LinkCause) (s : State) : (raiseLink l p c s).core = s.core := rfl
@[simp] theorem raiseLink_halt (l : LinkNo) (p : QualState) (c : LinkCause) (s : State) : (raiseLink l p c s).halt = s.halt := rfl
@[simp] theorem raiseLink_links (l : LinkNo) (p : QualState) (c : LinkCause) (s : State) : (raiseLink l p c s).links = s.links := rfl
@[simp] theorem raiseLink_outSet (l : LinkNo) (p : QualState) (c : LinkCause) (s : State) : (raiseLink l p c s).outSet = s.outSet := rfl
@[simp] theorem raiseLink_plans (l : LinkNo) (p : QualState) (c : LinkCause) (s : State) : (raiseLink l p c s).plans = s.plans := rfl
@[simp] theorem raiseLink_sel (l : LinkNo) (p : QualState) (c : LinkCause) (s : State) : (raiseLink l p c s).sel = s.sel := rfl
@[simp] theorem raiseLink_sched (l : LinkNo) (p : QualState) (c : LinkCause) (s : State) : (raiseLink l p c s).sched = s.sched := rfl
@[simp] theorem raiseLink_capture (l : LinkNo) (p : QualState) (c : LinkCause) (s : State) : (raiseLink l p c s).capture = s.capture := rfl
@[simp] theorem raiseLink_pulses (l : LinkNo) (p : QualState) (c : LinkCause) (s : State) : (raiseLink l p c s).pulses = s.pulses := rfl
@[simp] theorem raiseLink_channel (l : LinkNo) (p : QualState) (c : LinkCause) (s : State) : (raiseLink l p c s).channel = s.channel := rfl
@[simp] theorem raiseLink_notices (l : LinkNo) (p : QualState) (c : LinkCause) (s : State) : (raiseLink l p c s).notices = raised (.link l (link l s).qual.state p c 1) s.notices := rfl

/-! ## raisePlan -/

@[simp] theorem raisePlan_pending (p : Option PlanNo) (c : PlanCause) (i : SyncIndex) (s : State) : (raisePlan p c i s).pending = s.pending := rfl
@[simp] theorem raisePlan_choices (p : Option PlanNo) (c : PlanCause) (i : SyncIndex) (s : State) : (raisePlan p c i s).choices = s.choices := rfl
@[simp] theorem raisePlan_passing (p : Option PlanNo) (c : PlanCause) (i : SyncIndex) (s : State) : (raisePlan p c i s).passing = s.passing := rfl
@[simp] theorem raisePlan_caughtUp (p : Option PlanNo) (c : PlanCause) (i : SyncIndex) (s : State) : (raisePlan p c i s).caughtUp = s.caughtUp := rfl
@[simp] theorem raisePlan_kept (p : Option PlanNo) (c : PlanCause) (i : SyncIndex) (s : State) : (raisePlan p c i s).kept = s.kept := rfl
@[simp] theorem raisePlan_edgeAt (p : Option PlanNo) (c : PlanCause) (i : SyncIndex) (s : State) : (raisePlan p c i s).edgeAt = s.edgeAt := rfl
@[simp] theorem raisePlan_core (p : Option PlanNo) (c : PlanCause) (i : SyncIndex) (s : State) : (raisePlan p c i s).core = s.core := rfl
@[simp] theorem raisePlan_halt (p : Option PlanNo) (c : PlanCause) (i : SyncIndex) (s : State) : (raisePlan p c i s).halt = s.halt := rfl
@[simp] theorem raisePlan_links (p : Option PlanNo) (c : PlanCause) (i : SyncIndex) (s : State) : (raisePlan p c i s).links = s.links := rfl
@[simp] theorem raisePlan_outSet (p : Option PlanNo) (c : PlanCause) (i : SyncIndex) (s : State) : (raisePlan p c i s).outSet = s.outSet := rfl
@[simp] theorem raisePlan_plans (p : Option PlanNo) (c : PlanCause) (i : SyncIndex) (s : State) : (raisePlan p c i s).plans = s.plans := rfl
@[simp] theorem raisePlan_sel (p : Option PlanNo) (c : PlanCause) (i : SyncIndex) (s : State) : (raisePlan p c i s).sel = s.sel := rfl
@[simp] theorem raisePlan_sched (p : Option PlanNo) (c : PlanCause) (i : SyncIndex) (s : State) : (raisePlan p c i s).sched = s.sched := rfl
@[simp] theorem raisePlan_capture (p : Option PlanNo) (c : PlanCause) (i : SyncIndex) (s : State) : (raisePlan p c i s).capture = s.capture := rfl
@[simp] theorem raisePlan_pulses (p : Option PlanNo) (c : PlanCause) (i : SyncIndex) (s : State) : (raisePlan p c i s).pulses = s.pulses := rfl
@[simp] theorem raisePlan_channel (p : Option PlanNo) (c : PlanCause) (i : SyncIndex) (s : State) : (raisePlan p c i s).channel = s.channel := rfl
@[simp] theorem raisePlan_notices (p : Option PlanNo) (c : PlanCause) (i : SyncIndex) (s : State) : (raisePlan p c i s).notices = raised (.plan s.plans.active p c i) s.notices := rfl

/-! ## raiseItem -/

@[simp] theorem raiseItem_pending (e : Entry) (o : Ending) (s : State) : (raiseItem e o s).pending = s.pending := rfl
@[simp] theorem raiseItem_choices (e : Entry) (o : Ending) (s : State) : (raiseItem e o s).choices = s.choices := rfl
@[simp] theorem raiseItem_passing (e : Entry) (o : Ending) (s : State) : (raiseItem e o s).passing = s.passing := rfl
@[simp] theorem raiseItem_caughtUp (e : Entry) (o : Ending) (s : State) : (raiseItem e o s).caughtUp = s.caughtUp := rfl
@[simp] theorem raiseItem_kept (e : Entry) (o : Ending) (s : State) : (raiseItem e o s).kept = s.kept := rfl
@[simp] theorem raiseItem_edgeAt (e : Entry) (o : Ending) (s : State) : (raiseItem e o s).edgeAt = s.edgeAt := rfl
@[simp] theorem raiseItem_core (e : Entry) (o : Ending) (s : State) : (raiseItem e o s).core = s.core := rfl
@[simp] theorem raiseItem_halt (e : Entry) (o : Ending) (s : State) : (raiseItem e o s).halt = s.halt := rfl
@[simp] theorem raiseItem_links (e : Entry) (o : Ending) (s : State) : (raiseItem e o s).links = s.links := rfl
@[simp] theorem raiseItem_outSet (e : Entry) (o : Ending) (s : State) : (raiseItem e o s).outSet = s.outSet := rfl
@[simp] theorem raiseItem_plans (e : Entry) (o : Ending) (s : State) : (raiseItem e o s).plans = s.plans := rfl
@[simp] theorem raiseItem_sel (e : Entry) (o : Ending) (s : State) : (raiseItem e o s).sel = s.sel := rfl
@[simp] theorem raiseItem_sched (e : Entry) (o : Ending) (s : State) : (raiseItem e o s).sched = s.sched := rfl
@[simp] theorem raiseItem_capture (e : Entry) (o : Ending) (s : State) : (raiseItem e o s).capture = s.capture := rfl
@[simp] theorem raiseItem_pulses (e : Entry) (o : Ending) (s : State) : (raiseItem e o s).pulses = s.pulses := rfl
@[simp] theorem raiseItem_channel (e : Entry) (o : Ending) (s : State) : (raiseItem e o s).channel = s.channel := rfl
@[simp] theorem raiseItem_notices (e : Entry) (o : Ending) (s : State) : (raiseItem e o s).notices = raised (.actions [itemOf e o]) s.notices := rfl

/-! ## forcePulses -/

@[simp] theorem forcePulses_pending (s : State) : (forcePulses s).pending = s.pending := rfl
@[simp] theorem forcePulses_choices (s : State) : (forcePulses s).choices = s.choices := rfl
@[simp] theorem forcePulses_passing (s : State) : (forcePulses s).passing = s.passing := rfl
@[simp] theorem forcePulses_caughtUp (s : State) : (forcePulses s).caughtUp = s.caughtUp := rfl
@[simp] theorem forcePulses_kept (s : State) : (forcePulses s).kept = s.kept := rfl
@[simp] theorem forcePulses_edgeAt (s : State) : (forcePulses s).edgeAt = s.edgeAt := rfl
@[simp] theorem forcePulses_core (s : State) : (forcePulses s).core = s.core := rfl
@[simp] theorem forcePulses_halt (s : State) : (forcePulses s).halt = s.halt := rfl
@[simp] theorem forcePulses_links (s : State) : (forcePulses s).links = s.links := rfl
@[simp] theorem forcePulses_outSet (s : State) : (forcePulses s).outSet = s.outSet := rfl
@[simp] theorem forcePulses_plans (s : State) : (forcePulses s).plans = s.plans := rfl
@[simp] theorem forcePulses_sel (s : State) : (forcePulses s).sel = s.sel := rfl
@[simp] theorem forcePulses_sched (s : State) : (forcePulses s).sched = s.sched := rfl
@[simp] theorem forcePulses_capture (s : State) : (forcePulses s).capture = s.capture := rfl
@[simp] theorem forcePulses_pulses (s : State) : (forcePulses s).pulses = s.pulses.map idlePulse := rfl
@[simp] theorem forcePulses_channel (s : State) : (forcePulses s).channel = s.channel := rfl
@[simp] theorem forcePulses_notices (s : State) : (forcePulses s).notices = s.notices := rfl

/-! ## startPulse -/

@[simp] theorem startPulse_pending (o : OutputNo) (w : Nat) (s : State) : (startPulse o w s).pending = s.pending := rfl
@[simp] theorem startPulse_choices (o : OutputNo) (w : Nat) (s : State) : (startPulse o w s).choices = s.choices := rfl
@[simp] theorem startPulse_passing (o : OutputNo) (w : Nat) (s : State) : (startPulse o w s).passing = s.passing := rfl
@[simp] theorem startPulse_caughtUp (o : OutputNo) (w : Nat) (s : State) : (startPulse o w s).caughtUp = s.caughtUp := rfl
@[simp] theorem startPulse_kept (o : OutputNo) (w : Nat) (s : State) : (startPulse o w s).kept = s.kept := rfl
@[simp] theorem startPulse_edgeAt (o : OutputNo) (w : Nat) (s : State) : (startPulse o w s).edgeAt = s.edgeAt := rfl
@[simp] theorem startPulse_core (o : OutputNo) (w : Nat) (s : State) : (startPulse o w s).core = s.core := rfl
@[simp] theorem startPulse_halt (o : OutputNo) (w : Nat) (s : State) : (startPulse o w s).halt = s.halt := rfl
@[simp] theorem startPulse_links (o : OutputNo) (w : Nat) (s : State) : (startPulse o w s).links = s.links := rfl
@[simp] theorem startPulse_outSet (o : OutputNo) (w : Nat) (s : State) : (startPulse o w s).outSet = s.outSet := rfl
@[simp] theorem startPulse_plans (o : OutputNo) (w : Nat) (s : State) : (startPulse o w s).plans = s.plans := rfl
@[simp] theorem startPulse_sel (o : OutputNo) (w : Nat) (s : State) : (startPulse o w s).sel = s.sel := rfl
@[simp] theorem startPulse_sched (o : OutputNo) (w : Nat) (s : State) : (startPulse o w s).sched = s.sched := rfl
@[simp] theorem startPulse_capture (o : OutputNo) (w : Nat) (s : State) : (startPulse o w s).capture = s.capture := rfl
@[simp] theorem startPulse_pulses (o : OutputNo) (w : Nat) (s : State) : (startPulse o w s).pulses = s.pulses.set o { s.pulses.get o with active := true, width := w } := rfl
@[simp] theorem startPulse_channel (o : OutputNo) (w : Nat) (s : State) : (startPulse o w s).channel = s.channel := rfl
@[simp] theorem startPulse_notices (o : OutputNo) (w : Nat) (s : State) : (startPulse o w s).notices = s.notices := rfl

/-! ## countPulses -/

@[simp] theorem countPulses_pending (s : State) : (countPulses s).pending = s.pending := rfl
@[simp] theorem countPulses_choices (s : State) : (countPulses s).choices = s.choices := rfl
@[simp] theorem countPulses_passing (s : State) : (countPulses s).passing = s.passing := rfl
@[simp] theorem countPulses_caughtUp (s : State) : (countPulses s).caughtUp = s.caughtUp := rfl
@[simp] theorem countPulses_kept (s : State) : (countPulses s).kept = s.kept := rfl
@[simp] theorem countPulses_edgeAt (s : State) : (countPulses s).edgeAt = s.edgeAt := rfl
@[simp] theorem countPulses_core (s : State) : (countPulses s).core = s.core := rfl
@[simp] theorem countPulses_halt (s : State) : (countPulses s).halt = s.halt := rfl
@[simp] theorem countPulses_links (s : State) : (countPulses s).links = s.links := rfl
@[simp] theorem countPulses_outSet (s : State) : (countPulses s).outSet = s.outSet := rfl
@[simp] theorem countPulses_plans (s : State) : (countPulses s).plans = s.plans := rfl
@[simp] theorem countPulses_sel (s : State) : (countPulses s).sel = s.sel := rfl
@[simp] theorem countPulses_sched (s : State) : (countPulses s).sched = s.sched := rfl
@[simp] theorem countPulses_capture (s : State) : (countPulses s).capture = s.capture := rfl
@[simp] theorem countPulses_pulses (s : State) : (countPulses s).pulses = s.pulses.map stepPulse := rfl
@[simp] theorem countPulses_channel (s : State) : (countPulses s).channel = s.channel := rfl
@[simp] theorem countPulses_notices (s : State) : (countPulses s).notices = s.notices := rfl

/-! ## dequeue -/

@[simp] theorem dequeue_pending (s : State) : (dequeue s).pending = s.pending := rfl
@[simp] theorem dequeue_choices (s : State) : (dequeue s).choices = s.choices := rfl
@[simp] theorem dequeue_passing (s : State) : (dequeue s).passing = s.passing := rfl
@[simp] theorem dequeue_caughtUp (s : State) : (dequeue s).caughtUp = s.caughtUp := rfl
@[simp] theorem dequeue_kept (s : State) : (dequeue s).kept = s.kept := rfl
@[simp] theorem dequeue_edgeAt (s : State) : (dequeue s).edgeAt = s.edgeAt := rfl
@[simp] theorem dequeue_core (s : State) : (dequeue s).core = s.core := rfl
@[simp] theorem dequeue_halt (s : State) : (dequeue s).halt = s.halt := rfl
@[simp] theorem dequeue_links (s : State) : (dequeue s).links = s.links := rfl
@[simp] theorem dequeue_outSet (s : State) : (dequeue s).outSet = s.outSet := rfl
@[simp] theorem dequeue_plans (s : State) : (dequeue s).plans = s.plans := rfl
@[simp] theorem dequeue_sel (s : State) : (dequeue s).sel = s.sel := rfl
@[simp] theorem dequeue_sched (s : State) : (dequeue s).sched = s.sched := rfl
@[simp] theorem dequeue_capture (s : State) : (dequeue s).capture = s.capture := rfl
@[simp] theorem dequeue_pulses (s : State) : (dequeue s).pulses = s.pulses := rfl
@[simp] theorem dequeue_channel (s : State) : (dequeue s).channel = { s.channel with requests := s.channel.requests.tail } := rfl
@[simp] theorem dequeue_notices (s : State) : (dequeue s).notices = s.notices := rfl

/-! ## beginFrame -/

@[simp] theorem beginFrame_pending (f : Outgoing) (s : State) : (beginFrame f s).pending = s.pending := rfl
@[simp] theorem beginFrame_choices (f : Outgoing) (s : State) : (beginFrame f s).choices = s.choices := rfl
@[simp] theorem beginFrame_passing (f : Outgoing) (s : State) : (beginFrame f s).passing = s.passing := rfl
@[simp] theorem beginFrame_caughtUp (f : Outgoing) (s : State) : (beginFrame f s).caughtUp = s.caughtUp := rfl
@[simp] theorem beginFrame_kept (f : Outgoing) (s : State) : (beginFrame f s).kept = s.kept := rfl
@[simp] theorem beginFrame_edgeAt (f : Outgoing) (s : State) : (beginFrame f s).edgeAt = s.edgeAt := rfl
@[simp] theorem beginFrame_core (f : Outgoing) (s : State) : (beginFrame f s).core = s.core := rfl
@[simp] theorem beginFrame_halt (f : Outgoing) (s : State) : (beginFrame f s).halt = s.halt := rfl
@[simp] theorem beginFrame_links (f : Outgoing) (s : State) : (beginFrame f s).links = s.links := rfl
@[simp] theorem beginFrame_outSet (f : Outgoing) (s : State) : (beginFrame f s).outSet = s.outSet := rfl
@[simp] theorem beginFrame_plans (f : Outgoing) (s : State) : (beginFrame f s).plans = s.plans := rfl
@[simp] theorem beginFrame_sel (f : Outgoing) (s : State) : (beginFrame f s).sel = s.sel := rfl
@[simp] theorem beginFrame_sched (f : Outgoing) (s : State) : (beginFrame f s).sched = s.sched := rfl
@[simp] theorem beginFrame_capture (f : Outgoing) (s : State) : (beginFrame f s).capture = s.capture := rfl
@[simp] theorem beginFrame_pulses (f : Outgoing) (s : State) : (beginFrame f s).pulses = s.pulses := rfl
@[simp] theorem beginFrame_channel (f : Outgoing) (s : State) : (beginFrame f s).channel = { s.channel with sending := some { frame := f, left := lineTime f } } := rfl
@[simp] theorem beginFrame_notices (f : Outgoing) (s : State) : (beginFrame f s).notices = s.notices := rfl

/-! ## setRecord -/

@[simp] theorem setRecord_pending (i : PlanNo) (r : Option Plan) (s : State) : (setRecord i r s).pending = s.pending := rfl
@[simp] theorem setRecord_choices (i : PlanNo) (r : Option Plan) (s : State) : (setRecord i r s).choices = s.choices := rfl
@[simp] theorem setRecord_passing (i : PlanNo) (r : Option Plan) (s : State) : (setRecord i r s).passing = s.passing := rfl
@[simp] theorem setRecord_caughtUp (i : PlanNo) (r : Option Plan) (s : State) : (setRecord i r s).caughtUp = s.caughtUp := rfl
@[simp] theorem setRecord_kept (i : PlanNo) (r : Option Plan) (s : State) : (setRecord i r s).kept = s.kept := rfl
@[simp] theorem setRecord_edgeAt (i : PlanNo) (r : Option Plan) (s : State) : (setRecord i r s).edgeAt = s.edgeAt := rfl
@[simp] theorem setRecord_core (i : PlanNo) (r : Option Plan) (s : State) : (setRecord i r s).core = s.core := rfl
@[simp] theorem setRecord_halt (i : PlanNo) (r : Option Plan) (s : State) : (setRecord i r s).halt = s.halt := rfl
@[simp] theorem setRecord_links (i : PlanNo) (r : Option Plan) (s : State) : (setRecord i r s).links = s.links := rfl
@[simp] theorem setRecord_outSet (i : PlanNo) (r : Option Plan) (s : State) : (setRecord i r s).outSet = s.outSet := rfl
@[simp] theorem setRecord_plans (i : PlanNo) (r : Option Plan) (s : State) : (setRecord i r s).plans = { s.plans with records := s.plans.records.set i r } := rfl
@[simp] theorem setRecord_sel (i : PlanNo) (r : Option Plan) (s : State) : (setRecord i r s).sel = s.sel := rfl
@[simp] theorem setRecord_sched (i : PlanNo) (r : Option Plan) (s : State) : (setRecord i r s).sched = s.sched := rfl
@[simp] theorem setRecord_capture (i : PlanNo) (r : Option Plan) (s : State) : (setRecord i r s).capture = s.capture := rfl
@[simp] theorem setRecord_pulses (i : PlanNo) (r : Option Plan) (s : State) : (setRecord i r s).pulses = s.pulses := rfl
@[simp] theorem setRecord_channel (i : PlanNo) (r : Option Plan) (s : State) : (setRecord i r s).channel = s.channel := rfl
@[simp] theorem setRecord_notices (i : PlanNo) (r : Option Plan) (s : State) : (setRecord i r s).notices = s.notices := rfl

/-! ## holdRestart -/

@[simp] theorem holdRestart_pending (r : Request) (s : State) : (holdRestart r s).pending = s.pending := rfl
@[simp] theorem holdRestart_choices (r : Request) (s : State) : (holdRestart r s).choices = s.choices := rfl
@[simp] theorem holdRestart_passing (r : Request) (s : State) : (holdRestart r s).passing = s.passing := rfl
@[simp] theorem holdRestart_caughtUp (r : Request) (s : State) : (holdRestart r s).caughtUp = s.caughtUp := rfl
@[simp] theorem holdRestart_kept (r : Request) (s : State) : (holdRestart r s).kept = s.kept := rfl
@[simp] theorem holdRestart_edgeAt (r : Request) (s : State) : (holdRestart r s).edgeAt = s.edgeAt := rfl
@[simp] theorem holdRestart_core (r : Request) (s : State) : (holdRestart r s).core = s.core := rfl
@[simp] theorem holdRestart_halt (r : Request) (s : State) : (holdRestart r s).halt = s.halt := rfl
@[simp] theorem holdRestart_links (r : Request) (s : State) : (holdRestart r s).links = s.links := rfl
@[simp] theorem holdRestart_outSet (r : Request) (s : State) : (holdRestart r s).outSet = s.outSet := rfl
@[simp] theorem holdRestart_plans (r : Request) (s : State) : (holdRestart r s).plans = s.plans := rfl
@[simp] theorem holdRestart_sel (r : Request) (s : State) : (holdRestart r s).sel = s.sel := rfl
@[simp] theorem holdRestart_sched (r : Request) (s : State) : (holdRestart r s).sched = s.sched := rfl
@[simp] theorem holdRestart_capture (r : Request) (s : State) : (holdRestart r s).capture = s.capture := rfl
@[simp] theorem holdRestart_pulses (r : Request) (s : State) : (holdRestart r s).pulses = s.pulses := rfl
@[simp] theorem holdRestart_channel (r : Request) (s : State) : (holdRestart r s).channel = { s.channel with handling := some r } := rfl
@[simp] theorem holdRestart_notices (r : Request) (s : State) : (holdRestart r s).notices = s.notices := rfl

/-! ## setFrameTimer -/

@[simp] theorem setFrameTimer_pending (s : State) : (setFrameTimer s).pending = s.pending := rfl
@[simp] theorem setFrameTimer_choices (s : State) : (setFrameTimer s).choices = s.choices := rfl
@[simp] theorem setFrameTimer_passing (s : State) : (setFrameTimer s).passing = s.passing := rfl
@[simp] theorem setFrameTimer_caughtUp (s : State) : (setFrameTimer s).caughtUp = s.caughtUp := rfl
@[simp] theorem setFrameTimer_kept (s : State) : (setFrameTimer s).kept = s.kept := rfl
@[simp] theorem setFrameTimer_edgeAt (s : State) : (setFrameTimer s).edgeAt = s.edgeAt := rfl
@[simp] theorem setFrameTimer_core (s : State) : (setFrameTimer s).core = s.core := rfl
@[simp] theorem setFrameTimer_halt (s : State) : (setFrameTimer s).halt = s.halt := rfl
@[simp] theorem setFrameTimer_links (s : State) : (setFrameTimer s).links = s.links := rfl
@[simp] theorem setFrameTimer_outSet (s : State) : (setFrameTimer s).outSet = s.outSet := rfl
@[simp] theorem setFrameTimer_plans (s : State) : (setFrameTimer s).plans = s.plans := rfl
@[simp] theorem setFrameTimer_sel (s : State) : (setFrameTimer s).sel = s.sel := rfl
@[simp] theorem setFrameTimer_sched (s : State) : (setFrameTimer s).sched = s.sched := rfl
@[simp] theorem setFrameTimer_capture (s : State) : (setFrameTimer s).capture = s.capture := rfl
@[simp] theorem setFrameTimer_pulses (s : State) : (setFrameTimer s).pulses = s.pulses := rfl
@[simp] theorem setFrameTimer_channel (s : State) : (setFrameTimer s).channel = { s.channel with frameTimer := if s.channel.held = [] then none else some Config.frameTimerTicks } := rfl
@[simp] theorem setFrameTimer_notices (s : State) : (setFrameTimer s).notices = s.notices := rfl

/-! ## keepPassing -/

@[simp] theorem keepPassing_pending (s : State) : (keepPassing s).pending = s.pending := rfl
@[simp] theorem keepPassing_choices (s : State) : (keepPassing s).choices = s.choices := rfl
@[simp] theorem keepPassing_core (s : State) : (keepPassing s).core = s.core := rfl
@[simp] theorem keepPassing_passing (s : State) : (keepPassing s).passing = (if s.caughtUp.isSome then [] else s.passing) ++ [s.core] := rfl
@[simp] theorem keepPassing_caughtUp (s : State) : (keepPassing s).caughtUp = none := rfl
@[simp] theorem keepPassing_kept (s : State) : (keepPassing s).kept = s.kept + 1 := rfl
@[simp] theorem keepPassing_edgeAt (s : State) : (keepPassing s).edgeAt = s.edgeAt := rfl
@[simp] theorem keepPassing_toBlocks (s : State) : (keepPassing s).toBlocks = s.toBlocks := rfl
@[simp] theorem keepPassing_halt (s : State) : (keepPassing s).halt = s.halt := rfl
@[simp] theorem keepPassing_links (s : State) : (keepPassing s).links = s.links := rfl
@[simp] theorem keepPassing_outSet (s : State) : (keepPassing s).outSet = s.outSet := rfl
@[simp] theorem keepPassing_plans (s : State) : (keepPassing s).plans = s.plans := rfl
@[simp] theorem keepPassing_sel (s : State) : (keepPassing s).sel = s.sel := rfl
@[simp] theorem keepPassing_sched (s : State) : (keepPassing s).sched = s.sched := rfl
@[simp] theorem keepPassing_capture (s : State) : (keepPassing s).capture = s.capture := rfl
@[simp] theorem keepPassing_pulses (s : State) : (keepPassing s).pulses = s.pulses := rfl
@[simp] theorem keepPassing_channel (s : State) : (keepPassing s).channel = s.channel := rfl
@[simp] theorem keepPassing_notices (s : State) : (keepPassing s).notices = s.notices := rfl

/-! ## dropWaiting -/

@[simp] theorem dropWaiting_pending (s : State) : (dropWaiting s).pending = s.pending := rfl
@[simp] theorem dropWaiting_choices (s : State) : (dropWaiting s).choices = s.choices := rfl
@[simp] theorem dropWaiting_core (s : State) : (dropWaiting s).core = s.core := rfl
@[simp] theorem dropWaiting_passing (s : State) : (dropWaiting s).passing = s.passing := rfl
@[simp] theorem dropWaiting_caughtUp (s : State) : (dropWaiting s).caughtUp = s.caughtUp := rfl
@[simp] theorem dropWaiting_kept (s : State) : (dropWaiting s).kept = s.kept := rfl
@[simp] theorem dropWaiting_edgeAt (s : State) : (dropWaiting s).edgeAt = s.edgeAt := rfl
@[simp] theorem dropWaiting_halt (s : State) : (dropWaiting s).halt = s.halt := rfl
@[simp] theorem dropWaiting_links (s : State) : (dropWaiting s).links = s.links.map (fun u => { u with pair := { u.pair with waiting := [] } }) := rfl
@[simp] theorem dropWaiting_outSet (s : State) : (dropWaiting s).outSet = s.outSet := rfl
@[simp] theorem dropWaiting_plans (s : State) : (dropWaiting s).plans = s.plans := rfl
@[simp] theorem dropWaiting_sel (s : State) : (dropWaiting s).sel = s.sel := rfl
@[simp] theorem dropWaiting_sched (s : State) : (dropWaiting s).sched = s.sched := rfl
@[simp] theorem dropWaiting_capture (s : State) : (dropWaiting s).capture = s.capture := rfl
@[simp] theorem dropWaiting_pulses (s : State) : (dropWaiting s).pulses = s.pulses := rfl
@[simp] theorem dropWaiting_channel (s : State) : (dropWaiting s).channel = s.channel := rfl
@[simp] theorem dropWaiting_notices (s : State) : (dropWaiting s).notices = s.notices := rfl

/-! ## endCatchUp -/

@[simp] theorem endCatchUp_toBlocks (b s : State) : (endCatchUp b s).toBlocks = s.toBlocks := by unfold endCatchUp; split <;> rfl
@[simp] theorem endCatchUp_pending (b s : State) : (endCatchUp b s).pending = s.pending := by unfold endCatchUp; split <;> rfl
@[simp] theorem endCatchUp_choices (b s : State) : (endCatchUp b s).choices = s.choices := by unfold endCatchUp; split <;> rfl
@[simp] theorem endCatchUp_passing (b s : State) : (endCatchUp b s).passing = s.passing := by unfold endCatchUp; split <;> rfl
@[simp] theorem endCatchUp_kept (b s : State) : (endCatchUp b s).kept = s.kept := by unfold endCatchUp; split <;> rfl
@[simp] theorem endCatchUp_edgeAt (b s : State) : (endCatchUp b s).edgeAt = s.edgeAt := by unfold endCatchUp; split <;> rfl
theorem endCatchUp_of_none {b s : State} (h : s.kept = b.kept) : endCatchUp b s = s := by unfold endCatchUp; exact if_pos h
theorem endCatchUp_of_some {b s : State} (h : s.kept ≠ b.kept) : endCatchUp b s = { s with caughtUp := some s.toBlocks } := by
  unfold endCatchUp; exact if_neg h

/-! ## noteEdge -/

@[simp] theorem noteEdge_toBlocks (c : Core) (s : State) : (noteEdge c s).toBlocks = s.toBlocks := rfl
@[simp] theorem noteEdge_pending (c : Core) (s : State) : (noteEdge c s).pending = s.pending := rfl
@[simp] theorem noteEdge_choices (c : Core) (s : State) : (noteEdge c s).choices = s.choices := rfl
@[simp] theorem noteEdge_passing (c : Core) (s : State) : (noteEdge c s).passing = s.passing := rfl
@[simp] theorem noteEdge_caughtUp (c : Core) (s : State) : (noteEdge c s).caughtUp = s.caughtUp := rfl
@[simp] theorem noteEdge_kept (c : Core) (s : State) : (noteEdge c s).kept = s.kept := rfl
@[simp] theorem noteEdge_edgeAt (c : Core) (s : State) : (noteEdge c s).edgeAt = some (c.time, c.ticks) := rfl
@[simp] theorem noteEdge_core (c : Core) (s : State) : (noteEdge c s).core = s.core := rfl
@[simp] theorem noteEdge_halt (c : Core) (s : State) : (noteEdge c s).halt = s.halt := rfl
@[simp] theorem noteEdge_links (c : Core) (s : State) : (noteEdge c s).links = s.links := rfl
@[simp] theorem noteEdge_outSet (c : Core) (s : State) : (noteEdge c s).outSet = s.outSet := rfl
@[simp] theorem noteEdge_plans (c : Core) (s : State) : (noteEdge c s).plans = s.plans := rfl
@[simp] theorem noteEdge_sel (c : Core) (s : State) : (noteEdge c s).sel = s.sel := rfl
@[simp] theorem noteEdge_sched (c : Core) (s : State) : (noteEdge c s).sched = s.sched := rfl
@[simp] theorem noteEdge_capture (c : Core) (s : State) : (noteEdge c s).capture = s.capture := rfl
@[simp] theorem noteEdge_pulses (c : Core) (s : State) : (noteEdge c s).pulses = s.pulses := rfl
@[simp] theorem noteEdge_channel (c : Core) (s : State) : (noteEdge c s).channel = s.channel := rfl
@[simp] theorem noteEdge_notices (c : Core) (s : State) : (noteEdge c s).notices = s.notices := rfl

/-! ## endEdge -/

@[simp] theorem endEdge_toBlocks (b s : State) : (endEdge b s).toBlocks = s.toBlocks := by unfold endEdge; split <;> rfl
@[simp] theorem endEdge_pending (b s : State) : (endEdge b s).pending = s.pending := by unfold endEdge; split <;> rfl
@[simp] theorem endEdge_choices (b s : State) : (endEdge b s).choices = s.choices := by unfold endEdge; split <;> rfl
@[simp] theorem endEdge_passing (b s : State) : (endEdge b s).passing = s.passing := by unfold endEdge; split <;> rfl
@[simp] theorem endEdge_kept (b s : State) : (endEdge b s).kept = s.kept := by unfold endEdge; split <;> rfl
@[simp] theorem endEdge_edgeAt (b s : State) : (endEdge b s).edgeAt = s.edgeAt := by unfold endEdge; split <;> rfl

end Sys2Proof.Machine
end

