-- ==== Sys2Proof/Laws/Families.lean ====
section
/-! SUPPORT. Reading back what was written: one thing of four, one of six, one link. -/

namespace Sys2Proof

variable {α β : Type}

@[simp] theorem Per4.get_set_self (v : Per4 α) (i : Fin 4) (x : α) : (v.set i x).get i = x := by
  fin_cases i <;> rfl

theorem Per4.get_set_ne (v : Per4 α) {i j : Fin 4} (x : α) (h : j ≠ i) : (v.set i x).get j = v.get j := by
  fin_cases i <;> fin_cases j <;> first | rfl | exact absurd rfl h

@[simp] theorem Per4.get_all (x : α) (i : Fin 4) : (Per4.all x).get i = x := by
  fin_cases i <;> rfl

@[simp] theorem Per4.get_map (f : α → β) (v : Per4 α) (i : Fin 4) : (v.map f).get i = f (v.get i) := by
  fin_cases i <;> rfl

theorem Per4.ext_get {v w : Per4 α} (h : ∀ i, v.get i = w.get i) : v = w := by
  cases v; cases w
  have h0 := h 0; have h1 := h 1; have h2 := h 2; have h3 := h 3
  simp only [Per4.get] at h0 h1 h2 h3
  simp [h0, h1, h2, h3]

@[simp] theorem Per6.get_set_self (v : Per6 α) (i : Fin 6) (x : α) : (v.set i x).get i = x := by
  fin_cases i <;> rfl

theorem Per6.get_set_ne (v : Per6 α) {i j : Fin 6} (x : α) (h : j ≠ i) : (v.set i x).get j = v.get j := by
  fin_cases i <;> fin_cases j <;> first | rfl | exact absurd rfl h

@[simp] theorem Per6.get_all (x : α) (i : Fin 6) : (Per6.all x).get i = x := by
  fin_cases i <;> rfl

@[simp] theorem Per6.get_map (f : α → β) (v : Per6 α) (i : Fin 6) : (v.map f).get i = f (v.get i) := by
  fin_cases i <;> rfl

theorem Per6.ext_get {v w : Per6 α} (h : ∀ i, v.get i = w.get i) : v = w := by
  cases v; cases w
  have h0 := h 0; have h1 := h 1; have h2 := h 2; have h3 := h 3; have h4 := h 4; have h5 := h 5
  simp only [Per6.get] at h0 h1 h2 h3 h4 h5
  simp [h0, h1, h2, h3, h4, h5]

@[simp] theorem Per6.set_get_self (v : Per6 α) (i : Fin 6) : v.set i (v.get i) = v := by
  fin_cases i <;> rfl

@[simp] theorem Per6.set_set (v : Per6 α) (i : Fin 6) (x y : α) : (v.set i x).set i y = v.set i y := by
  fin_cases i <;> rfl

namespace Machine

@[simp] theorem link_setLink_self (l : LinkNo) (u : LinkUnit) (s : State) : link l (setLink l u s) = u := by
  simp [link]

theorem link_setLink_ne {l m : LinkNo} (u : LinkUnit) (s : State) (h : m ≠ l) : link m (setLink l u s) = link m s := by
  simp [link, Per6.get_set_ne _ _ h]

theorem link_setLink (l m : LinkNo) (u : LinkUnit) (s : State) : link m (setLink l u s) = if m = l then u else link m s := by
  by_cases h : m = l
  · subst h; simp
  · simp [h, link_setLink_ne _ _ h]

/-- A link reads the same in states with the same links. -/
theorem link_congr {s t : State} (h : t.links = s.links) (l : LinkNo) : link l t = link l s := by
  simp [link, h]

/-- The active plan reads the same in states with the same plan table. -/
theorem activePlan_congr {s t : State} (h : t.plans = s.plans) : activePlan t = activePlan s := by
  simp [activePlan, h]

end Machine

end Sys2Proof
end

