-- ==== Sys2Proof/Laws/Channel.lean ====
section
/-! SUPPORT. What the transmitter and the request handler can do: the transmitter writes the channel, the notice unit and the sequence numbers that entries
record; a request taken is answered by exactly one filled slot. -/

namespace Sys2Proof.Machine

/-! ## The transmitter -/

/-- A busy line: nothing begins. -/
theorem transmit_busy {s : State} {f : Transmission} (h : s.channel.sending = some f) : transmit s = s := by
  simp [transmit, h]

/-- A ready response begins on an idle line. -/
theorem transmit_ready {s : State} {r : Response} {rest : List Slot} (h : s.channel.sending = none)
    (hr : s.channel.responses = .filled r :: rest) : transmit s = beginFrame (.response r) s := by
  simp [transmit, h, hr]

/-- What the transmitter may write: the frame being sent, the notice unit, and the schedule's recorded sequence numbers. -/
theorem transmit_eq (s : State) : ∃ f n c, transmit s =
    { s with channel := { s.channel with sending := f }, notices := n, sched := { s.sched with queue := c } } := by
  unfold transmit
  split
  · exact ⟨_, _, _, rfl⟩
  · split
    · exact ⟨_, _, _, rfl⟩
    · split
      · rename_i o _
        cases o with
        | again n => exact ⟨_, _, _, rfl⟩
        | fresh n => cases n <;> exact ⟨_, _, _, rfl⟩
      · exact ⟨_, _, _, rfl⟩

@[simp] theorem transmit_pending (s : State) : (transmit s).pending = s.pending := by
  obtain ⟨f, n, c, h⟩ := transmit_eq s; rw [h]
@[simp] theorem transmit_choices (s : State) : (transmit s).choices = s.choices := by
  obtain ⟨f, n, c, h⟩ := transmit_eq s; rw [h]
@[simp] theorem transmit_passing (s : State) : (transmit s).passing = s.passing := by
  obtain ⟨f, n, c, h⟩ := transmit_eq s; rw [h]
@[simp] theorem transmit_caughtUp (s : State) : (transmit s).caughtUp = s.caughtUp := by
  obtain ⟨f, n, c, h⟩ := transmit_eq s; rw [h]
@[simp] theorem transmit_edgeAt (s : State) : (transmit s).edgeAt = s.edgeAt := by
  obtain ⟨f, n, c, h⟩ := transmit_eq s; rw [h]
@[simp] theorem transmit_kept (s : State) : (transmit s).kept = s.kept := by
  obtain ⟨f, n, c, h⟩ := transmit_eq s; rw [h]
@[simp] theorem transmit_core (s : State) : (transmit s).core = s.core := by
  obtain ⟨f, n, c, h⟩ := transmit_eq s; rw [h]
@[simp] theorem transmit_halt (s : State) : (transmit s).halt = s.halt := by
  obtain ⟨f, n, c, h⟩ := transmit_eq s; rw [h]
@[simp] theorem transmit_links (s : State) : (transmit s).links = s.links := by
  obtain ⟨f, n, c, h⟩ := transmit_eq s; rw [h]
@[simp] theorem transmit_outSet (s : State) : (transmit s).outSet = s.outSet := by
  obtain ⟨f, n, c, h⟩ := transmit_eq s; rw [h]
@[simp] theorem transmit_plans (s : State) : (transmit s).plans = s.plans := by
  obtain ⟨f, n, c, h⟩ := transmit_eq s; rw [h]
@[simp] theorem transmit_sel (s : State) : (transmit s).sel = s.sel := by
  obtain ⟨f, n, c, h⟩ := transmit_eq s; rw [h]
@[simp] theorem transmit_capture (s : State) : (transmit s).capture = s.capture := by
  obtain ⟨f, n, c, h⟩ := transmit_eq s; rw [h]
@[simp] theorem transmit_pulses (s : State) : (transmit s).pulses = s.pulses := by
  obtain ⟨f, n, c, h⟩ := transmit_eq s; rw [h]
@[simp] theorem transmit_spent (s : State) : (transmit s).sched.spent = s.sched.spent := by
  obtain ⟨f, n, c, h⟩ := transmit_eq s; rw [h]
@[simp] theorem transmit_nextId (s : State) : (transmit s).sched.nextId = s.sched.nextId := by
  obtain ⟨f, n, c, h⟩ := transmit_eq s; rw [h]
@[simp] theorem transmit_requests (s : State) : (transmit s).channel.requests = s.channel.requests := by
  obtain ⟨f, n, c, h⟩ := transmit_eq s; rw [h]
@[simp] theorem transmit_responses (s : State) : (transmit s).channel.responses = s.channel.responses := by
  obtain ⟨f, n, c, h⟩ := transmit_eq s; rw [h]
@[simp] theorem transmit_held (s : State) : (transmit s).channel.held = s.channel.held := by
  obtain ⟨f, n, c, h⟩ := transmit_eq s; rw [h]
@[simp] theorem transmit_frameTimer (s : State) : (transmit s).channel.frameTimer = s.channel.frameTimer := by
  obtain ⟨f, n, c, h⟩ := transmit_eq s; rw [h]
@[simp] theorem transmit_handling (s : State) : (transmit s).channel.handling = s.channel.handling := by
  obtain ⟨f, n, c, h⟩ := transmit_eq s; rw [h]
@[simp] theorem transmit_rate (s : State) : (transmit s).channel.rate = s.channel.rate := by
  obtain ⟨f, n, c, h⟩ := transmit_eq s; rw [h]

/-! ## Answering a request -/

theorem fillSlot_cons_head {r : Response} {l : List Slot} (h : Slot.reserved ∈ l) : ∃ q rest, fillSlot r l = .filled q :: rest := by
  cases l with
  | nil => cases h
  | cons x xs => cases x with
    | reserved => exact ⟨r, xs, rfl⟩
    | filled q => exact ⟨q, fillSlot r xs, rfl⟩

@[simp] theorem fillSlot_length (r : Response) (l : List Slot) : (fillSlot r l).length = l.length := by
  induction l with
  | nil => rfl
  | cons x xs ih => cases x <;> simp [fillSlot, ih]

/-- Filling a slot leaves one reserved slot fewer. -/
theorem reservedSlots_fillSlot (r : Response) (l : List Slot) : reservedSlots (fillSlot r l) = reservedSlots l - 1 := by
  induction l with
  | nil => rfl
  | cons x xs ih =>
    cases x with
    | reserved => simp [fillSlot, reservedSlots]
    | filled q =>
      simp only [fillSlot, reservedSlots, List.countP_cons] at ih ⊢
      simpa using ih

/-- A taken request has a reserved slot. -/
theorem TakesRequest.reserved_mem {tag kind : Byte} {payload : List Byte} {s : State} (h : TakesRequest tag kind payload s) :
    Slot.reserved ∈ s.channel.responses := by
  obtain ⟨_, hh, hm⟩ := h
  have hpos : 0 < reservedSlots s.channel.responses := by
    rw [hm]
    cases hr : s.channel.requests with
    | nil => simp [hr] at hh
    | cons x xs => simp
  obtain ⟨x, hx, hp⟩ := List.countP_pos_iff.mp hpos
  simpa using (eq_of_beq hp) ▸ hx

/-- The answer of a request whose effect leaves the channel to the handler: its slot filled and the line begun if idle; the transmitter writes nothing
else, since a response stands before any notice (R135, R137). -/
theorem transmit_placeResponse {r : Request} {a : Answer} {s : State} (h : Slot.reserved ∈ s.channel.responses) :
    transmit (placeResponse r a s) = { s with channel := startLine { s.channel with
      responses := fillSlot { tag := r.tag, kind := responseKind r.kind, status := a.status, fields := a.fields } s.channel.responses } } := by
  obtain ⟨q, rest, hq⟩ := fillSlot_cons_head (r := { tag := r.tag, kind := responseKind r.kind, status := a.status, fields := a.fields }) h
  cases hs : s.channel.sending with
  | some f => simp [transmit, placeResponse, startLine, hs]
  | none => simp [transmit, placeResponse, startLine, hs, hq, beginFrame]

/-- A handler command of the kind of the oldest request carries it out and answers it (R135). -/
theorem take_eq {c : Instr} {body : Request → State → Answer × State} {tag kind : Byte} {payload : List Byte} {s : State}
    (h : TakesRequest tag kind payload s) (hc : requestCommand kind = c) :
    take c body s =
      .next (transmit (placeResponse ⟨tag, kind, payload⟩ (body ⟨tag, kind, payload⟩ (dequeue s)).1 (body ⟨tag, kind, payload⟩ (dequeue s)).2)) := by
  obtain ⟨h1, h2, _⟩ := h
  simp [take, handle, oldestRequest, h1, h2, hc]

/-- The same for an effect that leaves the channel: the whole next state (R128, R135, R137). -/
theorem take_answers {c : Instr} {body : Request → State → Answer × State} {tag kind : Byte} {payload : List Byte} {s : State} {a : Answer}
    {t : State} (h : TakesRequest tag kind payload s) (hc : requestCommand kind = c) (hb : body ⟨tag, kind, payload⟩ (dequeue s) = (a, t))
    (ht : t.channel = (dequeue s).channel) :
    take c body s =
      .next { t with channel := respond { tag := tag, kind := responseKind kind, status := a.status, fields := a.fields } s.channel } := by
  rw [take_eq h hc, hb]
  have hm : Slot.reserved ∈ t.channel.responses := by rw [ht]; exact h.reserved_mem
  rw [transmit_placeResponse hm, ht]
  rfl

/-- A request of a defined kind with an allowed length, whose effect leaves the channel, in the statements' words: the whole next state. -/
theorem take_answerWith {c : Instr} {lengths : List Nat} {body : List Byte → State → Answer × State} {tag kind : Byte} {payload : List Byte}
    {s t : State} {a : Answer} (h : TakesRequest tag kind payload s) (hc : requestCommand kind = c) (hk : responseKind kind = kind + 0x80)
    (hl : payload.length ∈ lengths) (hb : body payload (dequeue s) = (a, t)) (ht : t.channel = (dequeue s).channel) :
    take c (withLength lengths body) s = .next (answerWith tag kind a.status a.fields { t with channel := s.channel }) := by
  have hw : withLength lengths body ⟨tag, kind, payload⟩ (dequeue s) = (a, t) := by simp [withLength, hl, hb]
  rw [take_answers h hc hw ht, hk]
  rfl

/-- A handler command whose kind is not the oldest request's, or while no request can be taken, changes nothing. -/
theorem take_idle {c : Instr} {body : Request → State → Answer × State} {s : State}
    (h : ∀ r, oldestRequest s = some r → requestCommand r.kind ≠ c) : take c body s = .next s := by
  unfold take handle
  split
  · rfl
  · rename_i r hr
    simp [h r hr]

end Sys2Proof.Machine
end

