-- ==== Sys2Proof/Laws/Environment.lean ====
section
/-! SUPPORT. What the timing functions never touch: the queue of commands, the halt line, the capture unit, the channel and what the edges of one tick carry. One lemma for each shared
operation of the core, the links, the selection, the plans and the schedule. And what an edge finds where no step was caught up. -/

namespace Sys2Proof.Machine

/-- The queue of commands, the choices drawn, the halt line, the capture unit, the channel and what the edges of this tick carry are as they were. -/
def SameEnvironment (s t : State) : Prop :=
  t.pending = s.pending ∧ t.choices = s.choices ∧ t.halt = s.halt ∧ t.capture = s.capture ∧ t.channel = s.channel
    ∧ t.edgeAt = s.edgeAt

theorem SameEnvironment.refl (s : State) : SameEnvironment s s := ⟨rfl, rfl, rfl, rfl, rfl, rfl⟩

theorem SameEnvironment.trans {s t u : State} (h : SameEnvironment s t) (k : SameEnvironment t u) : SameEnvironment s u := by
  obtain ⟨a, b, c, d, e, f⟩ := h
  obtain ⟨a', b', c', d', e', f'⟩ := k
  exact ⟨a'.trans a, b'.trans b, c'.trans c, d'.trans d, e'.trans e, f'.trans f⟩

/-- A fold of steps that each keep the environment keeps it. -/
theorem SameEnvironment.foldl {α : Type} {f : State → α → State} (h : ∀ s x, SameEnvironment s (f s x)) (l : List α) (s : State) :
    SameEnvironment s (l.foldl f s) := by
  induction l generalizing s with
  | nil => exact .refl s
  | cons x xs ih => exact (h s x).trans (ih _)

theorem sameEnvironment_setCore (c : Core) (s : State) : SameEnvironment s (setCore c s) := ⟨rfl, rfl, rfl, rfl, rfl, rfl⟩
theorem sameEnvironment_setLink (l : LinkNo) (u : LinkUnit) (s : State) : SameEnvironment s (setLink l u s) := ⟨rfl, rfl, rfl, rfl, rfl, rfl⟩
theorem sameEnvironment_setQual (l : LinkNo) (q : Qualifier) (s : State) : SameEnvironment s (setQual l q s) := ⟨rfl, rfl, rfl, rfl, rfl, rfl⟩
theorem sameEnvironment_setRx (l : LinkNo) (r : Receiver) (s : State) : SameEnvironment s (setRx l r s) := ⟨rfl, rfl, rfl, rfl, rfl, rfl⟩
theorem sameEnvironment_raise (n : Notice) (s : State) : SameEnvironment s (raise n s) := ⟨rfl, rfl, rfl, rfl, rfl, rfl⟩
theorem sameEnvironment_raiseFault (c : FaultCause) (s : State) : SameEnvironment s (raiseFault c s) := ⟨rfl, rfl, rfl, rfl, rfl, rfl⟩
theorem sameEnvironment_raiseTime (p : CoreState) (j : Option Time) (s : State) : SameEnvironment s (raiseTime p j s) := ⟨rfl, rfl, rfl, rfl, rfl, rfl⟩
theorem sameEnvironment_raiseLink (l : LinkNo) (p : QualState) (c : LinkCause) (s : State) : SameEnvironment s (raiseLink l p c s) :=
  ⟨rfl, rfl, rfl, rfl, rfl, rfl⟩
theorem sameEnvironment_raisePlan (p : Option PlanNo) (c : PlanCause) (i : SyncIndex) (s : State) : SameEnvironment s (raisePlan p c i s) :=
  ⟨rfl, rfl, rfl, rfl, rfl, rfl⟩
theorem sameEnvironment_raiseItem (e : Entry) (o : Ending) (s : State) : SameEnvironment s (raiseItem e o s) := ⟨rfl, rfl, rfl, rfl, rfl, rfl⟩
theorem sameEnvironment_forcePulses (s : State) : SameEnvironment s (forcePulses s) := ⟨rfl, rfl, rfl, rfl, rfl, rfl⟩
theorem sameEnvironment_countPulses (s : State) : SameEnvironment s (countPulses s) := ⟨rfl, rfl, rfl, rfl, rfl, rfl⟩

theorem sameEnvironment_emit (m : Mark) (s : State) : SameEnvironment s (emit m s) := by
  unfold emit; split
  · exact ⟨rfl, rfl, rfl, rfl, rfl, rfl⟩
  · exact .refl s

/-! ## Selection, links, plans -/

theorem sameEnvironment_select (p : Plan) (new : Option LinkNo) (s : State) : SameEnvironment s (select p new s) := ⟨rfl, rfl, rfl, rfl, rfl, rfl⟩

theorem sameEnvironment_reevaluate (s : State) : SameEnvironment s (reevaluate s) := by
  unfold reevaluate; split
  · exact .refl s
  · split
    · exact .refl s
    · exact sameEnvironment_select _ _ s

theorem sameEnvironment_changeQual (l : LinkNo) (q : Qualifier) (c : LinkCause) (s : State) : SameEnvironment s (changeQual l q c s) := by
  have h : SameEnvironment s (raiseLink l (link l s).qual.state c (reevaluate (setQual l q s))) :=
    ((sameEnvironment_setQual l q s).trans (sameEnvironment_reevaluate _)).trans (sameEnvironment_raiseLink l _ c _)
  unfold changeQual; split
  · exact h.trans (sameEnvironment_setRx l _ _)
  · exact h

theorem sameEnvironment_failLink (l : LinkNo) (q : Qualifier) (c : LinkCause) (s : State) : SameEnvironment s (failLink l q c s) := by
  unfold failLink
  dsimp only
  split
  · exact (sameEnvironment_changeQual l _ c s).trans (sameEnvironment_changeQual l _ _ _)
  · exact sameEnvironment_changeQual l _ c s

theorem sameEnvironment_leaveDirection (l : LinkNo) (s : State) : SameEnvironment s (leaveDirection l s) := by
  unfold leaveDirection
  dsimp only
  split
  · exact (sameEnvironment_setLink l _ s).trans (sameEnvironment_raiseLink l _ _ _)
  · exact sameEnvironment_setLink l _ s

theorem sameEnvironment_enterDirection (l : LinkNo) (d : Direction) (s : State) : SameEnvironment s (enterDirection l d s) := by
  unfold enterDirection
  dsimp only
  split
  · exact (sameEnvironment_setLink l _ s).trans (sameEnvironment_raiseLink l _ _ _)
  · exact sameEnvironment_setLink l _ s

theorem sameEnvironment_setDirection (sps : Nat) (l : LinkNo) (d : Direction) (s : State) : SameEnvironment s (setDirection sps l d s) := by
  unfold setDirection; split
  · exact sameEnvironment_setLink l _ s
  · exact (sameEnvironment_leaveDirection l s).trans (sameEnvironment_enterDirection l d _)

theorem sameEnvironment_setDirections (p : Plan) (s : State) : SameEnvironment s (setDirections p s) :=
  .foldl (fun s l => sameEnvironment_setDirection p.sps l (p.dirs.get l) s) allLinks s

theorem sameEnvironment_dropWaiting (s : State) : SameEnvironment s (dropWaiting s) := ⟨rfl, rfl, rfl, rfl, rfl, rfl⟩

theorem sameEnvironment_allOff (s : State) : SameEnvironment s (allOff s) :=
  .trans (.foldl (fun s l => by
    split
    · exact .refl s
    · exact sameEnvironment_leaveDirection l s) allLinks s) (sameEnvironment_dropWaiting _)

theorem sameEnvironment_corePlanChange (p : Plan) (st : CoreState) (s : State) : SameEnvironment s (corePlanChange p st s) := by
  unfold corePlanChange
  dsimp only
  split
  · exact (sameEnvironment_setCore _ s).trans (sameEnvironment_raiseTime _ _ _)
  · exact sameEnvironment_setCore _ s

theorem sameEnvironment_switchTo (t : PlanNo) (p : Plan) (s : State) : SameEnvironment s (switchTo t p s) := by
  unfold switchTo
  have h : SameEnvironment s { s with plans := { s.plans with active := some t } } := ⟨rfl, rfl, rfl, rfl, rfl, rfl⟩
  exact ((h.trans (sameEnvironment_setDirections p _)).trans (sameEnvironment_reevaluate _)).trans (sameEnvironment_corePlanChange p _ _)

theorem sameEnvironment_failover (s : State) : SameEnvironment s (failover s) := by
  unfold failover
  split
  · exact .refl s
  · split
    · exact .refl s
    · exact ((sameEnvironment_switchTo _ _ s).trans (sameEnvironment_setCore _ _)).trans (sameEnvironment_raisePlan _ _ _ _)

theorem sameEnvironment_considerFailover (c : CoreState) (s : State) : SameEnvironment s (considerFailover c s) := by
  unfold considerFailover
  split
  · exact .refl s
  · split
    · exact sameEnvironment_failover s
    · exact .refl s

theorem sameEnvironment_failoverController (c : CoreState) (s : State) : SameEnvironment s (failoverController c s) := by
  have h : SameEnvironment s { s with plans := { s.plans with held := none } } := ⟨rfl, rfl, rfl, rfl, rfl, rfl⟩
  unfold failoverController
  dsimp only
  split
  · exact h.trans (sameEnvironment_considerFailover c _)
  · split
    · exact h.trans (sameEnvironment_considerFailover c _)
    · split
      · exact h.trans (sameEnvironment_considerFailover c _)
      · exact (h.trans (sameEnvironment_switchTo _ _ _)).trans (sameEnvironment_raisePlan _ _ _ _)

/-! ## The schedule -/

theorem sameEnvironment_applyEntry (acc : Firing × State) (e : Entry) : SameEnvironment acc.2 (applyEntry acc e).2 := by
  unfold applyEntry
  dsimp only
  split
  · exact sameEnvironment_setCore _ _
  · split
    · exact .refl _
    · exact ⟨rfl, rfl, rfl, rfl, rfl, rfl⟩
  · exact ⟨rfl, rfl, rfl, rfl, rfl, rfl⟩

theorem sameEnvironment_applyEntries (es : List Entry) (acc : Firing × State) : SameEnvironment acc.2 (es.foldl applyEntry acc).2 := by
  induction es generalizing acc with
  | nil => exact .refl _
  | cons e es ih => exact (sameEnvironment_applyEntry acc e).trans (ih _)

theorem sameEnvironment_reportLoads (v : Time) (b : Bool) (s : State) : SameEnvironment s (reportLoads v b s) := by
  unfold reportLoads
  split
  · exact .refl s
  · dsimp only
    split
    · exact (sameEnvironment_setCore _ s).trans (sameEnvironment_raiseTime _ _ _)
    · exact sameEnvironment_raiseTime _ _ s

theorem sameEnvironment_reportFiring (o : List (Nat × Ending)) (es : List Entry) (s : State) : SameEnvironment s (reportFiring o es s) :=
  .foldl (fun s e => by
    split
    · exact sameEnvironment_raiseItem _ _ s
    · exact .refl s) es s

theorem sameEnvironment_fire (v : Time) (r : SyncRecord) (sps : Nat) (s : State) : SameEnvironment s (fire v r sps s) := by
  unfold fire
  dsimp only
  refine .trans ?_ (sameEnvironment_reportFiring _ _ _)
  exact ((sameEnvironment_applyEntries _ _).trans (sameEnvironment_reportLoads _ _ _)).trans ⟨rfl, rfl, rfl, rfl, rfl, rfl⟩

theorem sameEnvironment_flush (s : State) : SameEnvironment s (flush s) := by
  unfold flush
  dsimp only
  refine .trans ?_ (.foldl (fun s e => sameEnvironment_raiseItem e .flushed s) _ _)
  exact ⟨rfl, rfl, rfl, rfl, rfl, rfl⟩

theorem sameEnvironment_receiveOrder (l : LinkNo) (o : Order) (s : State) : SameEnvironment s (receiveOrder l o s) := by
  unfold receiveOrder
  split
  · exact .refl s
  · split
    · exact sameEnvironment_raiseFault _ s
    · split
      · exact sameEnvironment_raiseFault _ s
      · exact ⟨rfl, rfl, rfl, rfl, rfl, rfl⟩

/-! ## Counted steps -/

theorem sameEnvironment_compose (s : State) : SameEnvironment s (compose s) := by
  unfold compose
  split
  · exact ⟨rfl, rfl, rfl, rfl, rfl, rfl⟩
  · exact .refl s

theorem sameEnvironment_composeIfDue (s : State) : SameEnvironment s (composeIfDue s) := by
  unfold composeIfDue
  split
  · exact sameEnvironment_compose s
  · exact .refl s

theorem sameEnvironment_countPlain (s : State) : SameEnvironment s (countPlain s) := by
  unfold countPlain
  exact (((sameEnvironment_composeIfDue s).trans (sameEnvironment_setCore _ _)).trans (sameEnvironment_countPulses _)).trans (sameEnvironment_emit _ _)

theorem sameEnvironment_takeJump (v : Time) (s : State) : SameEnvironment s (takeJump v s) :=
  (sameEnvironment_setCore _ s).trans (sameEnvironment_raiseTime _ _ _)

theorem sameEnvironment_timeCheck (p : Plan) (v : Time) (s : State) : SameEnvironment s (timeCheck p v s) := by
  unfold timeCheck
  split
  · exact .refl s
  · split
    · exact sameEnvironment_raiseFault _ s
    · exact sameEnvironment_takeJump v s

theorem sameEnvironment_realign (e : Option Time) (s : State) : SameEnvironment s (realign e s) := by
  unfold realign
  split
  · exact sameEnvironment_setCore _ s
  · dsimp only
    split
    · exact sameEnvironment_setCore _ s
    · exact (sameEnvironment_setCore _ s).trans (sameEnvironment_takeJump _ _)

theorem sameEnvironment_correct (p : Plan) (c : SyncCause) (s : State) : SameEnvironment s (correct p c s) := by
  unfold correct
  split
  · exact .refl s
  · split
    · exact ⟨rfl, rfl, rfl, rfl, rfl, rfl⟩
    · exact .refl s
  · split
    · exact sameEnvironment_realign _ s
    · split
      · exact sameEnvironment_timeCheck p _ s
      · exact .refl s

theorem sameEnvironment_expireHoldover (p : Plan) (s : State) : SameEnvironment s (expireHoldover p s) := by
  unfold expireHoldover
  split
  · exact ((sameEnvironment_setCore _ s).trans (sameEnvironment_raiseFault _ _)).trans (sameEnvironment_raiseTime _ _ _)
  · exact .refl s

theorem sameEnvironment_boundary (p : Plan) (s : State) : SameEnvironment s (boundary p s) := by
  unfold boundary
  dsimp only
  split
  · exact (sameEnvironment_setCore _ s).trans (sameEnvironment_expireHoldover p _)
  · exact sameEnvironment_setCore _ s

theorem sameEnvironment_recordFinal (s : State) : SameEnvironment s (recordFinal s) := ⟨rfl, rfl, rfl, rfl, rfl, rfl⟩

theorem sameEnvironment_reportJoin (c : SyncCause) (p : CoreState) (a b : Time) (s : State) : SameEnvironment s (reportJoin c p a b s) := by
  unfold reportJoin
  split
  · exact sameEnvironment_raiseTime _ _ s
  · exact .refl s
  · exact .refl s

theorem sameEnvironment_beginSync (s : State) : SameEnvironment s (beginSync s) := ⟨rfl, rfl, rfl, rfl, rfl, rfl⟩

theorem sameEnvironment_takeSync (p : Plan) (c : SyncCause) (s : State) : SameEnvironment s (takeSync p c s) := by
  unfold takeSync
  dsimp only
  refine .trans ?_ (sameEnvironment_setCore _ _)
  refine .trans ?_ (sameEnvironment_failoverController _ _)
  refine .trans ?_ (sameEnvironment_reportJoin _ _ _ _ _)
  refine .trans ?_ (sameEnvironment_emit _ _)
  refine .trans ?_ (sameEnvironment_recordFinal _)
  refine .trans ?_ (sameEnvironment_fire _ _ _ _)
  refine .trans ?_ (sameEnvironment_boundary _ _)
  refine .trans ?_ (sameEnvironment_correct _ _ _)
  exact (sameEnvironment_composeIfDue s).trans (sameEnvironment_beginSync _)

theorem sameEnvironment_countGenerated (p : Plan) (s : State) : SameEnvironment s (countGenerated p s) := by
  unfold countGenerated
  dsimp only
  split
  · exact (sameEnvironment_setCore _ s).trans (sameEnvironment_takeSync p _ _)
  · exact (sameEnvironment_setCore _ s).trans (sameEnvironment_countPlain _)

theorem sameEnvironment_keepPassing (s : State) : SameEnvironment s (keepPassing s) := ⟨rfl, rfl, rfl, rfl, rfl, rfl⟩

theorem sameEnvironment_countWhile (due : Core → Bool) (k : Nat) (b : Bool) (s : State) : SameEnvironment s (countWhile due k b s) := by
  induction k generalizing b s with
  | zero => exact .refl s
  | succ k ih =>
    unfold countWhile
    split
    · exact .refl s
    · split
      · refine .trans ?_ (ih _ _)
        refine .trans ?_ (sameEnvironment_countGenerated _ _)
        split
        · exact sameEnvironment_keepPassing s
        · exact .refl s
      · exact .refl s

theorem sameEnvironment_runGenerator (b : Bool) (s : State) : SameEnvironment s (runGenerator b s) := sameEnvironment_countWhile _ _ _ s

theorem sameEnvironment_catchUp (n : Bool) (b s : State) : SameEnvironment s (catchUp n b s) := by
  unfold catchUp
  split
  · exact sameEnvironment_runGenerator _ s
  · exact .refl s

theorem sameEnvironment_catchUpPassed (b s : State) : SameEnvironment s (catchUpPassed b s) := by
  unfold catchUpPassed
  split
  · exact sameEnvironment_countWhile _ _ _ s
  · exact .refl s

theorem sameEnvironment_countMark (p : Plan) (l : LinkNo) (k : MarkKind) (m : Option (Nat × Bool)) (s : State) :
    SameEnvironment s (countMark p l k m s) := by
  unfold countMark
  dsimp only
  split
  · exact (sameEnvironment_setCore _ s).trans (sameEnvironment_countPlain _)
  · exact (sameEnvironment_setCore _ s).trans (sameEnvironment_takeSync p _ _)
  · exact (sameEnvironment_setCore _ s).trans (sameEnvironment_takeSync p _ _)

theorem sameEnvironment_followPosition (k : MarkKind) (s : State) : SameEnvironment s (followPosition k s) := by
  unfold followPosition
  split
  · exact sameEnvironment_setCore _ s
  · exact .refl s

theorem sameEnvironment_coreMark (p : Plan) (l : LinkNo) (k : MarkKind) (m : Option (Nat × Bool)) (s : State) :
    SameEnvironment s (coreMark p l k m s) := by
  unfold coreMark
  split
  · exact .refl s
  · split
    · exact sameEnvironment_countMark p l k m s
    · split
      · exact (sameEnvironment_setCore _ s).trans (sameEnvironment_takeSync p _ _)
      · exact sameEnvironment_followPosition k s

theorem sameEnvironment_assertHalt (s : State) : SameEnvironment s (assertHalt s) := by
  unfold assertHalt
  split
  · exact .refl s
  · exact .refl s
  · exact ((sameEnvironment_setCore _ s).trans (sameEnvironment_forcePulses _)).trans (sameEnvironment_raiseTime _ _ _)

theorem sameEnvironment_releaseHalt (s : State) : SameEnvironment s (releaseHalt s) := by
  unfold releaseHalt
  split
  · exact (sameEnvironment_setCore _ s).trans (sameEnvironment_raiseTime _ _ _)
  · exact .refl s

/-! ## Receiving -/

theorem sameEnvironment_onGood (p : Plan) (l : LinkNo) (q : Qualifier) (s : State) : SameEnvironment s (onGood p l q s) := by
  unfold onGood
  dsimp only
  split
  · split
    · exact sameEnvironment_changeQual l _ _ s
    · exact sameEnvironment_setQual l _ s
  · split
    · exact sameEnvironment_changeQual l _ _ s
    · exact sameEnvironment_setQual l _ s
  all_goals exact sameEnvironment_setQual l _ s

theorem sameEnvironment_onBad (p : Plan) (l : LinkNo) (c : LinkCause) (q : Qualifier) (s : State) : SameEnvironment s (onBad p l c q s) := by
  unfold onBad
  dsimp only
  split
  · exact sameEnvironment_changeQual l _ _ s
  · split
    · exact sameEnvironment_failLink l _ _ s
    · exact sameEnvironment_setQual l _ s
  all_goals exact sameEnvironment_setQual l _ s

theorem sameEnvironment_qualifyMark (p : Plan) (l : LinkNo) (k : MarkKind) (s : State) : SameEnvironment s (qualifyMark p l k s) := by
  unfold qualifyMark
  dsimp only
  split
  · exact .refl s
  · exact .refl s
  · exact sameEnvironment_changeQual l _ _ s
  all_goals
    split
    · exact sameEnvironment_onGood p l _ s
    · exact sameEnvironment_onBad p l _ _ s

theorem sameEnvironment_coreQuality (l : LinkNo) (s : State) : SameEnvironment s (coreQuality l s) := by
  unfold coreQuality
  split
  · dsimp only
    split
    · exact sameEnvironment_setCore _ s
    · exact (sameEnvironment_setCore _ s).trans (sameEnvironment_raiseTime _ _ _)
  · exact .refl s

theorem sameEnvironment_updateRx (l : LinkNo) (r : Receiver) (s : State) : SameEnvironment s (updateRx l r s) := by
  unfold updateRx
  dsimp only
  split
  · exact ((sameEnvironment_setRx l r s).trans (sameEnvironment_reevaluate _)).trans (sameEnvironment_coreQuality l _)
  · exact sameEnvironment_setRx l r s

theorem sameEnvironment_acceptMessage (l : LinkNo) (m : LinkMessage) (s : State) : SameEnvironment s (acceptMessage l m s) := by
  unfold acceptMessage
  dsimp only
  split
  · exact sameEnvironment_setLink l _ s
  · exact sameEnvironment_updateRx l _ s
  · split
    · exact sameEnvironment_receiveOrder l _ s
    · exact .refl s

theorem sameEnvironment_checkMessage (l : LinkNo) (b : List Byte) (s : State) : SameEnvironment s (checkMessage l b s) := by
  unfold checkMessage
  split
  · exact sameEnvironment_acceptMessage l _ s
  · exact sameEnvironment_raiseFault _ s

theorem sameEnvironment_assemble (l : LinkNo) (b : Byte) (s : State) : SameEnvironment s (assemble l b s) := by
  unfold assemble
  dsimp only
  split
  · split
    · exact .refl s
    · split
      · exact sameEnvironment_setRx l _ s
      · exact (sameEnvironment_setRx l _ s).trans (sameEnvironment_raiseFault _ _)
  · split
    · exact (sameEnvironment_setRx l _ s).trans (sameEnvironment_checkMessage l _ _)
    · exact sameEnvironment_setRx l _ s

theorem sameEnvironment_closeInterval (l : LinkNo) (b : Option Byte) (s : State) : SameEnvironment s (closeInterval l b s) := by
  have h : SameEnvironment s (if (link l s).rx.msg = [] then s
      else raiseFault .linkMessage (setRx l { (link l s).rx with msg := [] } s)) := by
    split
    · exact .refl s
    · exact (sameEnvironment_setRx l _ s).trans (sameEnvironment_raiseFault _ _)
  unfold closeInterval
  dsimp only
  by_cases hb : b.isSome
  · rw [if_pos hb]; exact h.trans (sameEnvironment_raiseFault _ _)
  · rw [if_neg hb]; exact h

theorem sameEnvironment_finishMark (l : LinkNo) (k : MarkKind) (b : Option Byte) (s : State) : SameEnvironment s (finishMark l k b s) := by
  unfold finishMark
  split
  · exact .refl s
  · split
    · exact sameEnvironment_assemble l _ s
    · exact .refl s
    · exact sameEnvironment_updateRx l _ s

theorem sameEnvironment_receiveMark (p : Plan) (l : LinkNo) (k : MarkKind) (b : Option Byte) (s : State) :
    SameEnvironment s (receiveMark p l k b s) := by
  unfold receiveMark
  dsimp only
  refine .trans ?_ (sameEnvironment_catchUp _ _ _)
  refine .trans ?_ (sameEnvironment_finishMark l k b _)
  have h1 : SameEnvironment s (if isSync k then closeInterval l b s else s) := by
    split
    · exact sameEnvironment_closeInterval l b s
    · exact .refl s
  generalize (if isSync k then closeInterval l b s else s) = s1 at h1 ⊢
  have h2 : SameEnvironment s (catchUpPassed s1 (qualifyMark p l k s1)) :=
    h1.trans (.trans (sameEnvironment_qualifyMark p l k s1) (sameEnvironment_catchUpPassed s1 _))
  generalize catchUpPassed s1 (qualifyMark p l k s1) = s2 at h2 ⊢
  split
  · refine h2.trans (.trans ?_ (sameEnvironment_coreMark _ l k _ _))
    split
    · exact sameEnvironment_keepPassing s2
    · exact .refl s2
  · exact h2

theorem sameEnvironment_expireLoss (l : LinkNo) (s : State) : SameEnvironment s (expireLoss l s) := by
  unfold expireLoss
  dsimp only
  split
  · exact sameEnvironment_changeQual l _ _ s
  · exact sameEnvironment_failLink l _ _ s
  · exact sameEnvironment_failLink l _ _ s
  all_goals exact .refl s

/-! ## Starting and stopping the time core -/

theorem sameEnvironment_setPlans (q : PlanTable) (s : State) : SameEnvironment s { s with plans := q } := ⟨rfl, rfl, rfl, rfl, rfl, rfl⟩
theorem sameEnvironment_setSel (q : Selection) (s : State) : SameEnvironment s { s with sel := q } := ⟨rfl, rfl, rfl, rfl, rfl, rfl⟩
theorem sameEnvironment_setSet (q : PlanTable) (o : Option (List Byte)) (s : State) : SameEnvironment s { s with plans := q, outSet := o } :=
  ⟨rfl, rfl, rfl, rfl, rfl, rfl⟩

theorem sameEnvironment_startTime (i : PlanNo) (p : Plan) (v : Option Time) (s : State) : SameEnvironment s (startTime i p v s) := by
  unfold startTime
  extract_lets plans s1 s2 s3 s4
  have h1 : SameEnvironment s s1 := sameEnvironment_setPlans _ s
  have h2 : SameEnvironment s1 s2 := (sameEnvironment_setCore _ s1).trans (sameEnvironment_raiseTime _ _ _)
  have h3 : SameEnvironment s2 s3 := (sameEnvironment_setDirections p s2).trans (sameEnvironment_reevaluate _)
  have h4 : SameEnvironment s3 s4 := sameEnvironment_raisePlan _ _ _ s3
  have h := ((h1.trans h2).trans h3).trans h4
  clear_value s4
  split
  · exact h.trans (sameEnvironment_compose s4)
  · exact h

theorem sameEnvironment_stopTime (s : State) : SameEnvironment s (stopTime s) := by
  unfold stopTime
  extract_lets s1 previous s2 plan plans s3 s4
  have h1 : SameEnvironment s s1 := (sameEnvironment_flush s).trans (sameEnvironment_forcePulses _)
  have h2 : SameEnvironment s1 s2 := (sameEnvironment_setCore _ s1).trans (sameEnvironment_raiseTime _ _ _)
  have h3 : SameEnvironment s2 s3 := (sameEnvironment_setSet _ _ s2).trans (sameEnvironment_allOff _)
  have h4 : SameEnvironment s3 s4 := sameEnvironment_setSel _ s3
  have h := ((h1.trans h2).trans h3).trans h4
  clear_value s4
  exact h.trans (sameEnvironment_raisePlan _ _ _ s4)

/-! ## An edge among caught-up steps -/

theorem amidCatchUp_iff (s : State) : amidCatchUp s = true ↔ s.caughtUp = some s.toBlocks := by simp [amidCatchUp]
theorem coreBefore_of_none (n : Nat) {s : State} (h : s.passing = []) : coreBefore n s = s.core := by simp [coreBefore, h]
theorem coreAtPlace_of_amid {s : State} (h : s.caughtUp = some s.toBlocks) : coreAtPlace s = coreBefore (Config.edgePlace s.kept) s := by
  simp [coreAtPlace, amidCatchUp, h]
theorem coreAtPlace_of_not_amid {s : State} (h : s.caughtUp ≠ some s.toBlocks) : coreAtPlace s = s.core := by simp [coreAtPlace, amidCatchUp, h]
theorem coreAtEdge_of_first {s : State} (h : s.edgeAt = none) : coreAtEdge s = coreAtPlace s := by simp [coreAtEdge, h]
theorem coreAtEdge_of_later {s : State} {v : Time} {n : Nat} (h : s.edgeAt = some (v, n)) :
    coreAtEdge s = { coreAtPlace s with time := v, ticks := n } := by simp [coreAtEdge, h]
/-- Every edge accepted after another at one tick carries what that one carried (R116). -/
theorem coreAtEdge_carries {s : State} {v : Time} {n : Nat} (h : s.edgeAt = some (v, n)) : (coreAtEdge s).time = v ∧ (coreAtEdge s).ticks = n := by
  simp [coreAtEdge, h]
/-- Whatever else an accepted edge does, it notes what it carries. -/
theorem acceptEdge_edgeAt (line : EventLine) (edge : Edge) (c : Core) (s : State) : (acceptEdge line edge c s).edgeAt = some (c.time, c.ticks) := by
  unfold acceptEdge
  dsimp only
  split
  · split <;> rfl
  · rfl
theorem endEdge_of_amid {b : State} (s : State) (h : b.caughtUp = some b.toBlocks) : endEdge b s = { s with caughtUp := some s.toBlocks } := by
  simp [endEdge, amidCatchUp, h]
theorem endEdge_of_not_amid {b : State} (s : State) (h : b.caughtUp ≠ some b.toBlocks) : endEdge b s = s := by simp [endEdge, amidCatchUp, h]

end Sys2Proof.Machine
end

