-- ==== Sys2Proof/WellFormed.lean ====
section
/-! DEFINITION. Which commands a conforming board and conforming neighbours give the part. The operands' types hold every range the rows name
(links, lines, outputs, bytes), so the one check left is R28's: the sync mark that ends an interval never carries a byte. -/

namespace Sys2Proof

/-- R28: a sender never places a byte on a sync mark. An ill-formed mark still has a meaning: R32 b discards the byte and counts LINK_MESSAGE. -/
def Instr.wellFormed : Instr → Bool
  | .linkMark _ k b => decide (k = .plain) || b.isNone
  | .powerOnReset _ _ _ _ => true
  | .channelByte _ => true
  | .frameTimerExpiry => true
  | .undefinedRequest => true
  | .ping => true
  | .restart => true
  | .restartTakesEffect => true
  | .planWrite => true
  | .planRead => true
  | .planClear => true
  | .fallbackSet => true
  | .fallbackRead => true
  | .linkSet => true
  | .linkRead => true
  | .timeStart => true
  | .timeStop => true
  | .timeRead => true
  | .actionAdd => true
  | .actionCancel => true
  | .actionList => true
  | .lineSet => true
  | .captureRead => true
  | .haltSet => true
  | .noticeAck => true
  | .noticeSet => true
  | .transmitDone => true
  | .ackTimerExpiry => true
  | .pulseWidthEnd _ => true
  | .holdoverExpired => true
  | .generatorStep => true
  | .lossTimerExpiry _ => true
  | .holdoffTimerExpiry _ => true
  | .haltnAssert => true
  | .haltnRelease => true
  | .eventEdge _ _ => true
  | .caughtUpMarkLeaves _ => true

end Sys2Proof
end

