-- ==== Sys2Proof/Tests/Slice0.lean ====
section
/-! SUPPORT. The model's own tests: the well-formedness check, the manual's published values, one small run of each family, and for each statement of
Certificates/Slice0/Obligations.lean that has hypotheses a state and operands that meet them, at the ends of their ranges. -/

namespace Sys2Proof.Tests

open Sys2Proof Sys2Proof.Machine

/-! ## Small states -/

/-- A follower of L0 that relays on L1. -/
def followerPlan : Plan where
  role := .follower
  dirs := ⟨.receive, .send, .off, .off, .off, .off⟩
  cands := [0]
  revertive := false
  worst := 4
  nominal := 16
  tolerance := 2
  validity := 3
  grace := 1
  sps := 64
  policy := .report
  limit := 2

/-- A master that sends on L0 and L1. -/
def masterPlan : Plan :=
  { followerPlan with role := .master, dirs := ⟨.send, .send, .off, .off, .off, .off⟩, cands := [] }

/-- The core in a state, with the flags that go with it. -/
def coreIn (p : Plan) (st : CoreState) : Core :=
  ownGrade { Core.reset with
    state := st, valid := counting st, record := { final := 0, valid := counting st }
    gen := { Core.reset.gen with running := generating st, spacing := p.nominal } }

/-- P0 active with a record, its links in its directions, and the core in a state. -/
def running (p : Plan) (st : CoreState) : State :=
  { State.reset with
    plans := { PlanTable.reset with records := ⟨some p, none, none, none⟩, active := some 0 }
    links := p.dirs.map (fun d =>
      { LinkUnit.reset with dir := d, qual := if d = .receive then seekQual Qualifier.reset else Qualifier.reset })
    core := coreIn p st }

/-- A backup that returns to L0. -/
def backupPlan : Plan := { followerPlan with role := .backup, revertive := true }

/-- P0 LOADED and no plan active. -/
def loaded (p : Plan) : State := { State.reset with plans := { PlanTable.reset with records := ⟨some p, none, none, none⟩ } }

/-- One request in the queue with its reserved slot. -/
def asking (kind : Byte) (payload : List Byte) (s : State) : State :=
  { s with channel := { s.channel with requests := [⟨7, kind, payload⟩], responses := [.reserved] } }

/-- L0's qualifier replaced by one that waits for a good mark. -/
def awaiting (sync : Bool) (s : State) : State :=
  setQual 0 { (link 0 s).qual with
    state := .valid, sinceMark := 16, phase := some 63, intervalSps := some (if sync then 64 else 80), announceSeen := true } s

/-- One entry of the schedule. -/
def entry (id : Nat) (a : Action) (due : Time) : Entry where
  id := id
  action := a
  due := due
  outcome := none
  origin := .channel
  orderId := none
  sends := 0
  reportedIn := none

/-- The schedule holding some entries. -/
def scheduled (es : List Entry) (s : State) : State := { s with sched := { s.sched with queue := es } }

/-- A frame on the line whose last byte has left. -/
def sent (f : Outgoing) (s : State) : State := { s with channel := { s.channel with sending := some { frame := f, left := 0 } } }

/-- A window of `n` notices. -/
def windowOf (n : Nat) (s : State) : State :=
  { s with notices := { s.notices with window := (List.range n).map (fun i => { seq := BitVec.ofNat 16 i, notice := .capture 1 }) } }

/-- A capture record. -/
def someRecord : CaptureRecord := { line := 0, edge := .rising, time := 0, ticks := 0, state := .idle, valid := false, gap := 0 }

theorem asking_takes (kind : Byte) (payload : List Byte) (s : State) (h : s.channel.handling = none) :
    TakesRequest 7 kind payload (asking kind payload s) := ⟨h, rfl, rfl⟩

/-- A master whose next step is due. -/
def dueMaster : State :=
  { running masterPlan .master with
    core := { coreIn masterPlan .master with gen := { (coreIn masterPlan .master).gen with elapsed := 16 } }
    outSet := some [1, 2, 3] }

/-- The state that an outcome goes on with. -/
def nextOf : Host.Outcome State Fault Refusal → Option State
  | .next s => some s
  | _ => none

/-! ## Well-formedness -/

theorem test_wellFormed_refuses_a_byte_on_a_sync_mark : (Instr.linkMark 0 .sync (some 1)).wellFormed = false := by decide
theorem test_wellFormed_refuses_a_byte_on_a_realign_mark : (Instr.linkMark 5 .syncRealign (some 0)).wellFormed = false := by decide
theorem test_wellFormed_takes_a_byte_on_a_plain_mark : (Instr.linkMark 0 .plain (some 1)).wellFormed = true := by decide
theorem test_no_word_spells_a_command : decodeTableWord 8 0x5B = none := by decide

/-! ## Values that the manual gives -/

theorem test_crc16_check_value : crc16 ([0x31, 0x32, 0x33, 0x34, 0x35, 0x36, 0x37, 0x38, 0x39] : List Byte) = 0x29B1 := by decide +kernel
theorem test_crc8_check_value : crc8 ([0x31, 0x32, 0x33, 0x34, 0x35, 0x36, 0x37, 0x38, 0x39] : List Byte) = 0xF4 := by decide +kernel
theorem test_plan_record_is_23_bytes : (planBytes followerPlan).length = 23 := by decide +kernel
theorem test_entry_is_27_bytes : (entryBytes (entry 1 (.load 0) 0)).length = 27 := by decide +kernel
theorem test_capture_record_is_16_bytes : (captureBytes someRecord).length = 16 := by decide +kernel
theorem test_message_lengths : (messageBytes (.announce ⟨0, 0⟩)).length = 11 ∧ (messageBytes (.quality ⟨0, 0, false, .master⟩)).length = 6
    ∧ (messageBytes (.order ⟨1, 0, .load 0⟩)).length = 20 := by decide +kernel

/-! ## Small runs -/

theorem test_ping_is_answered : nextOf (exec .ping (asking 0x01 [] State.reset))
    = some (answerWith 7 0x01 .ok [0x80, 0x41, 1, 6, 4, 32, 64] (asking 0x01 [] State.reset)) := by decide +kernel
theorem test_undefined_request_is_answered : (nextOf (exec .undefinedRequest (asking 0x15 [] State.reset))).map (fun s => s.channel)
    = some (respond ⟨7, 0x95, .unknownKind, []⟩ (asking 0x15 [] State.reset).channel) := by decide +kernel
theorem test_a_step_takes_the_front : nextOf (step { State.reset with pending := [.haltnAssert, .haltnRelease] })
    = some { State.reset with pending := [.haltnRelease], halt := { policy := .ignore, level := .low } } := by decide +kernel
theorem test_reset_sends_ready : (nextOf (step State.reset)).map (fun s => s.channel.sending)
    = some (some { frame := .notice ⟨0, .ready .power⟩, left := 12 * 10 * 125000000 }) := by decide +kernel
theorem test_generator_counts_a_step : (nextOf (exec .generatorStep dueMaster)).map (fun s => (s.core.time, s.core.gen.elapsed)) = some (1, 0) := by decide +kernel
theorem test_a_pulse_ends_with_its_width : stepPulse { polarity := .activeLow, active := true, width := 1 }
    = { polarity := .activeLow, active := false, width := 0 } := by decide
theorem test_spent_list_drops_the_oldest : spend (some 17) ((List.range 16).map (BitVec.ofNat 16)) = ((List.range 15).map (fun n => BitVec.ofNat 16 (n + 1))) ++ [17] := by
  decide +kernel
theorem test_action_ids_wrap : freeId [entry 255 (.load 0) 0] 255 255 = 1 := by decide +kernel

/-- A master three steps behind. -/
def lateMaster : State := { dueMaster with core := { dueMaster.core with gen := { dueMaster.core.gen with elapsed := 48 } } }

theorem test_an_edge_between_caught_up_steps :
    (nextOf (exec .generatorStep lateMaster)).map (fun s => (amidCatchUp s, [0, 1, 2, 3].map (fun n => ((coreBefore n s).time, (coreBefore n s).ticks))))
      = some (true, [(3, 0), (2, 0), (1, 0), (1, 0)]) := by decide +kernel
theorem test_a_dropped_edge_leaves_the_next_one_there :
    ((nextOf (exec .generatorStep lateMaster)).bind (fun s => nextOf (exec (.eventEdge 3 .rising) s))).map (fun s => (amidCatchUp s, s.kept)) = some (true, 2) := by
  decide +kernel
theorem test_after_another_event_an_edge_finds_the_core :
    ((nextOf (exec .generatorStep { lateMaster with halt := ⟨.freeze, .high⟩ })).bind (fun s => nextOf (exec .haltnAssert s))).map
      (fun s => (amidCatchUp s, coreAtEdge s == s.core)) = some (false, true) := by decide +kernel
theorem test_a_tick_ends_the_instant :
    ((nextOf (exec .generatorStep lateMaster)).bind (fun s => nextOf (step s))).map (fun s => (s.passing, s.caughtUp)) = some ([], none) := by decide +kernel
theorem test_edges_of_one_tick_carry_one_time :
    let s := { dueMaster with halt := ⟨.freeze, .high⟩, capture := { dueMaster.capture with edges := Per4.all .both } }
    let t := [Instr.eventEdge 3 .rising, .generatorStep, .haltnAssert, .eventEdge 2 .rising].foldl (fun s c => s.bind (fun u => nextOf (exec c u))) (some s)
    t.map (fun u => (u.core.time, u.capture.fifo.map (fun c => (c.time, c.ticks, c.state)))) = some (1, [(0, 0, .master), (0, 0, .halted)]) := by
  decide +kernel
theorem test_a_tick_forgets_what_its_edges_carried :
    (nextOf (step { dueMaster with edgeAt := some (7, 3) })).map State.edgeAt = some none := by decide +kernel
theorem test_a_byte_inside_a_frame_is_held :
    (nextOf (exec (.channelByte 9) { State.reset with channel := { State.reset.channel with held := [0x5B, 3, 1], frameTimer := some 1 } })).map
      (fun s => (s.channel.held, s.channel.frameTimer)) = some ([0x5B, 3, 1, 9], some 2500000) := by decide +kernel
theorem test_an_edge_is_stored :
    (nextOf (exec (.eventEdge 3 .rising) { State.reset with capture := { State.reset.capture with edges := Per4.all .both } })).map
      (fun s => s.capture.fifo.length) = some 1 := by decide +kernel
theorem test_a_lost_send_link_keeps_the_switch_sync :
    untilLastSync [⟨.plain, none⟩, ⟨.sync, none⟩, ⟨.plain, none⟩] = [⟨.plain, none⟩, ⟨.sync, none⟩] ∧ untilLastSync [⟨.plain, none⟩] = [] := by decide
theorem test_a_second_takeover_is_reported :
    ((corePlanChange backupPlan .master { running backupPlan .master with core := { coreIn backupPlan .master with takeover := true, grade := 2 } }).notices.unsent).length
      = State.reset.notices.unsent.length + 1 := by decide +kernel
theorem test_a_release_in_acquiring_realigns_after_the_join :
    ((nextOf (exec .haltnRelease { running followerPlan .halted with
      halt := ⟨.freeze, .low⟩, core := { coreIn followerPlan .halted with remembered := some .acquiring } })).map (fun s => (s.core.state, s.core.outRealign)))
      = some (.acquiring, some 2) := by decide +kernel
theorem test_a_tick_finds_the_loss_timer_due :
    (nextOf (step (setQual 0 { Qualifier.reset with state := .valid, loss := some 1 } (running followerPlan .free)))).map State.pending
      = some [.lossTimerExpiry 0] := by decide +kernel

/-! ## The hypotheses of the statements can be met -/

/-- A queue with a command in front, and an empty one: StepTakesTheFrontCommand, IdleStepIsOneTick. -/
theorem test_witness_queue : ({ State.reset with pending := [.ping, .timeRead] } : State).pending = .ping :: [.timeRead] ∧ State.reset.pending = [] := by decide

/-- RestartTakesEffectKeepsTheSettings. -/
theorem test_witness_restart_due : ∃ (r : Response) (s : State), s.channel.sending = some { frame := .response r, left := 0 } ∧ r.kind = 0x82 ∧ r.status = .ok
    ∧ s.channel.handling.isSome ∧ s.notices.mask.getLsbD 0 = true :=
  ⟨⟨7, 0x82, .ok, []⟩, sent (.response ⟨7, 0x82, .ok, []⟩) { State.reset with channel := { State.reset.channel with handling := some ⟨7, 2, []⟩ } },
    by decide +kernel⟩

/-- ReadyResponseGoesBeforeAnyNotice, clause by clause: a busy line, a ready response, QUIET, a resend, a full window, and room in it. -/
theorem test_witness_transmit :
    (sent (.notice ⟨0, .capture 1⟩) State.reset).channel.sending.isSome
    ∧ (∃ s : State, s.channel.sending = none ∧ ∃ r rest, s.channel.responses = .filled r :: rest)
    ∧ (∃ s : State, s.channel.sending = none ∧ (∀ r rest, s.channel.responses ≠ .filled r :: rest) ∧ s.notices.liveness = .quiet)
    ∧ (∃ s : State, s.channel.sending = none ∧ (∀ r rest, s.channel.responses ≠ .filled r :: rest) ∧ s.notices.liveness = .live
        ∧ ∃ q qs n, s.notices.resend = q :: qs ∧ s.notices.window.find? (fun m => m.seq == q) = some n)
    ∧ (∃ s : State, s.channel.sending = none ∧ (∀ r rest, s.channel.responses ≠ .filled r :: rest) ∧ s.notices.liveness = .live
        ∧ s.notices.resend = [] ∧ s.notices.window.length = 4)
    ∧ (∃ s : State, s.channel.sending = none ∧ (∀ r rest, s.channel.responses ≠ .filled r :: rest) ∧ s.notices.liveness = .live
        ∧ s.notices.resend = [] ∧ s.notices.window.length = 3 ∧ ∃ n ns, s.notices.unsent = n :: ns) :=
  ⟨by decide,
   ⟨{ State.reset with channel := { State.reset.channel with responses := [.filled ⟨7, 0x81, .ok, []⟩] } }, rfl, _, _, rfl⟩,
   ⟨{ State.reset with notices := { NoticeUnit.reset with liveness := .quiet } }, rfl, nofun, rfl⟩,
   ⟨{ windowOf 1 State.reset with notices := { (windowOf 1 State.reset).notices with resend := [0] } }, rfl, nofun, rfl, 0, [], ⟨0, .capture 1⟩, rfl, by decide⟩,
   ⟨windowOf 4 State.reset, rfl, nofun, rfl, rfl, by decide⟩,
   ⟨windowOf 3 State.reset, rfl, nofun, rfl, rfl, by decide, _, _, rfl⟩⟩

/-- TransmitDoneFreesTheLine, AckTimerExpiryResendsOrGoesQuiet. -/
theorem test_witness_transmit_done :
    ((sent (.response ⟨7, 0x81, .ok, []⟩) State.reset).channel.sending = some { frame := .response ⟨7, 0x81, .ok, []⟩, left := 0 }
      ∧ ¬((sent (.response ⟨7, 0x81, .ok, []⟩) State.reset).channel.handling.isSome ∧ (0x81 : Byte) = 0x82 ∧ Status.ok = .ok))
    ∧ (sent (.notice ⟨0, .capture 1⟩) State.reset).channel.sending = some { frame := .notice ⟨0, .capture 1⟩, left := 0 }
    ∧ (∃ u : NoticeUnit, u.timer = some 0 ∧ u.retry + 1 < 3) ∧ (∃ u : NoticeUnit, u.timer = some 0 ∧ u.retry + 1 = 3) :=
  ⟨by decide, by decide, ⟨{ NoticeUnit.reset with timer := some 0, retry := 1 }, by decide⟩, ⟨{ NoticeUnit.reset with timer := some 0, retry := 2 }, by decide⟩⟩

/-- HuntStartsFramesAndExaminesFailedOnes, LenOutOfRangeIsFraming. -/
theorem test_witness_receiver :
    State.reset.channel.held = [] ∧ (0x5A : Byte) ≠ 0x5B
    ∧ ([0x5B, 2, 0, 0, 0] : List Byte) ++ [0] = 0x5B :: (2 : Byte) :: [0, 0, 0, 0] ∧ ([0, 0, 0, 0] : List Byte).length = (2 : Byte).toNat + 2
    ∧ (crc16 ((2 : Byte) :: ([0, 0, 0, 0] : List Byte).take (2 : Byte).toNat)).toNat
        ≠ (([0, 0, 0, 0] : List Byte).getD (2 : Byte).toNat 0).toNat + 256 * (([0, 0, 0, 0] : List Byte).getD ((2 : Byte).toNat + 1) 0).toNat
    ∧ ({ State.reset with channel := { State.reset.channel with held := [0x5B], frameTimer := some 0 } } : State).channel.frameTimer = some 0
    ∧ (1 : Byte).toNat < 2 ∧ 2 ≤ (2 : Byte).toNat ∧ (242 : Byte).toNat ≤ 242 ∧ 242 < (243 : Byte).toNat
    ∧ ([0, 0, 0] : List Byte).length < (2 : Byte).toNat + 2 := by decide +kernel

/-- HuntStartsFramesAndExaminesFailedOnes, the examination of held bytes: a whole frame that passes and one that fails, each with a byte after it. -/
theorem test_witness_examination :
    frame 7 1 [] ++ [0x5B] = 0x5B :: (frame 7 1 [] ++ [0x5B]).tail ∧ ([] : List Byte).length ≤ 240
    ∧ 2 ≤ (2 : Byte).toNat ∧ (2 : Byte).toNat ≤ 242 ∧ ([0, 0, 0, 0] : List Byte).length = (2 : Byte).toNat + 2
    ∧ (takeBytes (1 :: frame 7 1 [] ++ [0x5B, 9]) State.reset).channel.requests.length = 1
    ∧ (takeBytes (1 :: frame 7 1 [] ++ [0x5B, 9]) State.reset).channel.held = [0x5B, 9] := by decide +kernel

/-- WholeFrameIsTakenAsARequest: a PING frame that fills the response list's last place, that finds the list full, and that finds the queue full. -/
theorem test_witness_whole_frame :
    ((frame 7 1 []).dropLast ++ [(frame 7 1 []).getLastD 0] = frame 7 1 [] ∧ ([] : List Byte).length ≤ 240)
    ∧ (∃ c : Channel, c.responses.length < 6 ∧ c.requests.length < 4) ∧ (∃ c : Channel, 6 ≤ c.responses.length)
    ∧ (∃ c : Channel, c.handling.isSome ∧ 4 ≤ c.requests.length) ∧ (∃ c : Channel, c.responses.length < 6 ∧ c.handling = none ∧ 4 ≤ c.requests.length) :=
  ⟨by decide +kernel, ⟨{ State.reset.channel with responses := List.replicate 5 .reserved, requests := List.replicate 3 ⟨1, 1, []⟩ }, by decide⟩,
   ⟨{ State.reset.channel with responses := List.replicate 6 .reserved }, by decide⟩,
   ⟨{ State.reset.channel with handling := some ⟨1, 2, []⟩, requests := List.replicate 4 ⟨1, 1, []⟩ }, by decide⟩,
   ⟨{ State.reset.channel with requests := List.replicate 4 ⟨1, 1, []⟩, responses := List.replicate 5 .reserved }, by decide⟩⟩

/-- RaiseIsFoldedIntoTheUnsentNotice. -/
theorem test_witness_raise :
    ({ NoticeUnit.reset with mask := 0x0B } : NoticeUnit).mask.getLsbD (maskBit .capture) = false
    ∧ (NoticeUnit.reset.mask.getLsbD (maskBit (noticeKey (.capture 1))) = true ∧ ∀ m ∈ NoticeUnit.reset.unsent, noticeKey m ≠ noticeKey (.capture 1))
    ∧ (({ NoticeUnit.reset with unsent := [.ready .power, .capture 1] } : NoticeUnit).unsent = [.ready .power] ++ Notice.capture 1 :: []
        ∧ noticeKey (.capture 1) = noticeKey (.capture 9) ∧ ∀ x ∈ [Notice.ready .power], noticeKey x ≠ noticeKey (.capture 9))
    ∧ (∀ e ∈ [(FaultCause.channelCrc, 255)], e.1 ≠ .orderLate) := by decide +kernel

/-- GeneralChecksAnswerKindAndLength: kinds 0 and 0x15, and lengths next to those allowed. -/
theorem test_witness_general_checks :
    TakesRequest 7 0x00 [] (asking 0x00 [] State.reset) ∧ (0x00 : Byte).toNat = 0
    ∧ TakesRequest 7 0x15 [] (asking 0x15 [] State.reset) ∧ 0x14 < (0x15 : Byte).toNat
    ∧ TakesRequest 7 0x01 [0] (asking 0x01 [0] State.reset) ∧ ([0] : List Byte).length ∉ allowedLengths 0x01
    ∧ TakesRequest 7 0x14 [0] (asking 0x14 [0] State.reset) ∧ ([0] : List Byte).length ∉ allowedLengths 0x14 :=
  ⟨asking_takes _ _ _ rfl, by decide, asking_takes _ _ _ rfl, by decide, asking_takes _ _ _ rfl, by decide, asking_takes _ _ _ rfl, by decide⟩

/-- PingReportsThePart, RestartIsAnsweredAndHeld, CaptureReadTakesTheOldestRecords (9 records held, 8 returned) and ReadingRequestsChangeNothing (start positions 31
and 32). -/
theorem test_witness_reading :
    TakesRequest 7 0x01 [] (asking 0x01 [] State.reset) ∧ TakesRequest 7 0x02 [] (asking 0x02 [] State.reset)
    ∧ ({ State.reset.channel with handling := some ⟨7, 2, []⟩ } : Channel).handling.isSome
    ∧ TakesRequest 7 0x12 [] (asking 0x12 [] State.reset) ∧ List.replicate 9 someRecord = List.replicate 8 someRecord ++ [someRecord]
    ∧ (List.replicate 8 someRecord).length = min 8 (List.replicate 9 someRecord).length
    ∧ TakesRequest 7 0x07 [] (asking 0x07 [] State.reset) ∧ TakesRequest 7 0x0D [] (asking 0x0D [] State.reset)
    ∧ TakesRequest 7 0x10 [31] (asking 0x10 [31] State.reset) ∧ (31 : Byte).toNat ≤ 31
    ∧ TakesRequest 7 0x10 [32] (asking 0x10 [32] State.reset) ∧ 31 < (32 : Byte).toNat :=
  ⟨asking_takes _ _ _ rfl, asking_takes _ _ _ rfl, rfl, asking_takes _ _ _ rfl, by decide, by decide, asking_takes _ _ _ rfl, asking_takes _ _ _ rfl,
   asking_takes _ _ _ rfl, by decide, asking_takes _ _ _ rfl, by decide⟩

/-- PlanWriteReplacesTheRecord, PlanValidationNamesTheFirstFailingField: P3, the index 4, the active plan, a record that passes, and one whose field 12's
neighbour fails. -/
theorem test_witness_plan_write :
    (planBytes followerPlan).length = 23 ∧ planOfBytes (planBytes followerPlan) = .ok followerPlan
    ∧ (List.replicate 23 (0 : Byte)).length = 23 ∧ planOfBytes (List.replicate 23 0) = .error 5 := by decide +kernel

/-- The requests of PlanWrite, PlanRead, PlanClear and LinkRead, and the plans they name: P0 active and LOADED, P3 neither. -/
theorem test_witness_plan_requests :
    TakesRequest 7 0x03 (4 :: planBytes followerPlan) (asking 0x03 (4 :: planBytes followerPlan) State.reset)
    ∧ TakesRequest 7 0x03 (0 :: planBytes followerPlan) (asking 0x03 (0 :: planBytes followerPlan) (running followerPlan .free))
    ∧ (running followerPlan .free).plans.active = some 0 ∧ (running followerPlan .free).plans.active ≠ some 3
    ∧ (running followerPlan .free).plans.records.get 3 = none ∧ (running followerPlan .free).plans.records.get 0 = some followerPlan
    ∧ TakesRequest 7 0x04 [3] (asking 0x04 [3] (running followerPlan .free)) ∧ TakesRequest 7 0x05 [3] (asking 0x05 [3] (running followerPlan .free))
    ∧ (3 : Byte).toNat = (3 : PlanNo).val ∧ 3 < (4 : Byte).toNat ∧ (5 : Byte).toNat = (5 : LinkNo).val ∧ 5 < (6 : Byte).toNat
    ∧ TakesRequest 7 0x09 [5] (asking 0x09 [5] State.reset) ∧ TakesRequest 7 0x08 [5, 0x80, 255] (asking 0x08 [5, 0x80, 255] State.reset) :=
  ⟨asking_takes _ _ _ rfl, asking_takes _ _ _ rfl, rfl, by decide, rfl, rfl, asking_takes _ _ _ rfl, asking_takes _ _ _ rfl, rfl, by decide, rfl, by decide,
   asking_takes _ _ _ rfl, asking_takes _ _ _ rfl⟩

/-- FallbackSetReplacesTheList: an index above 3, one named twice, the active plan, and a list that is taken. -/
theorem test_witness_fallback :
    TakesRequest 7 0x06 [1, 2, 3] (asking 0x06 [1, 2, 3] (running followerPlan .free)) ∧ ([1, 2, 3] : List Byte).length ≤ 3
    ∧ 3 < ([0, 1, 2, 3] : List Byte).length ∧ ([] : List Byte).length ≤ 3
    ∧ (∃ b ∈ ([4] : List Byte), 3 < b.toNat) ∧ ([1, 2, 3] : List Byte) = ([1, 2, 3] : List PlanNo).map (fun n => BitVec.ofNat 8 n.val)
    ∧ ¬([1, 1] : List PlanNo).Nodup ∧ (∃ n ∈ ([0] : List PlanNo), (running followerPlan .free).plans.active = some n)
    ∧ ([1, 2, 3] : List PlanNo).Nodup ∧ (∀ n ∈ ([1, 2, 3] : List PlanNo), (running followerPlan .free).plans.active ≠ some n) :=
  ⟨asking_takes _ _ _ rfl, by decide, by decide, by decide, by decide, by decide, by decide, by decide, by decide, by decide⟩

/-- LineSetTakesAllEightSettings and NoticeSetTakesBothSettings: values in and out of range. -/
theorem test_witness_settings :
    TakesRequest 7 0x11 [0, 1, 2, 3, 0, 1, 0, 1] (asking 0x11 [0, 1, 2, 3, 0, 1, 0, 1] State.reset)
    ∧ 3 < byteAt [0, 1, 2, 4, 0, 0, 0, 0] 3 ∧ 1 < byteAt [0, 1, 2, 3, 0, 0, 0, 2] (4 + 3)
    ∧ ([0, 1, 2, 3, 0, 1, 0, 1] : List Byte)
        = (⟨.none, .rising, .falling, .both⟩ : Per4 EdgeChoice).toList.map (fun x => BitVec.ofNat 8 (codeEdgeChoice x))
          ++ (⟨.activeHigh, .activeLow, .activeHigh, .activeLow⟩ : Per4 Polarity).toList.map (fun x => BitVec.ofNat 8 (codePolarity x))
    ∧ TakesRequest 7 0x0A [5, 0x09] (asking 0x0A [5, 0x09] State.reset) ∧ 5 ≤ (5 : Byte).toNat ∧ (4 : Byte).toNat < 5
    ∧ (0x09 : Byte).getLsbD 0 = true ∧ (0x09 : Byte).getLsbD 3 = true ∧ (0x09 : Byte).getLsbD 7 = false
    ∧ (0x08 : Byte).getLsbD 0 = false ∧ (0x01 : Byte).getLsbD 3 = false ∧ (0x89 : Byte).getLsbD 7 = true :=
  ⟨asking_takes _ _ _ rfl, by decide, by decide, by decide, asking_takes _ _ _ rfl, by decide, by decide, by decide, by decide, by decide, by decide, by decide,
   by decide⟩

/-- NoticeAckRemovesUpToItsNumber: the last number of a full window, and one that it does not hold. -/
theorem test_witness_notice_ack :
    TakesRequest 7 0x14 (u16 (3 : SeqNo).toNat) (asking 0x14 (u16 (3 : SeqNo).toNat) (windowOf 4 State.reset))
    ∧ (windowOf 4 State.reset).notices.window = (windowOf 3 State.reset).notices.window ++ { seq := 3, notice := Notice.capture 1 } :: []
    ∧ (∀ m ∈ (windowOf 3 State.reset).notices.window, m.seq ≠ 3) ∧ (∀ n ∈ (windowOf 3 State.reset).notices.window, n.seq ≠ 3) :=
  ⟨asking_takes _ _ _ rfl, by decide, by decide, by decide⟩

/-- An entry that a notice reported, and the schedule that holds it. -/
def reported : Schedule := { Schedule.reset with queue := [{ entry 1 (.load 0) 0 with outcome := some .done, orderId := some 5, reportedIn := some 3 }] }

/-- NoticeAckRemovesUpToItsNumber, what a notice releases: the entry that records its number, and none for a notice of another kind. -/
theorem test_witness_release :
    ScheduleInv reported ∧ ([itemOf (entry 1 (.load 0) 0) .done].map ActionItem.id).Nodup ∧ (∀ items, Notice.capture 1 ≠ .actions items)
    ∧ releaseNotice reported ⟨3, .actions [itemOf (entry 1 (.load 0) 0) .done]⟩ = { Schedule.reset with spent := [5] } :=
  ⟨⟨by decide, by decide, by decide, by decide, by decide, by decide, nofun, by decide, by decide, by decide⟩, by decide, nofun, by decide +kernel⟩

/-- HaltSetActsByThePolicyTable, HaltAssertionFreezesTheCore. -/
theorem test_witness_halt :
    TakesRequest 7 0x13 [1] (asking 0x13 [1] (running followerPlan .free)) ∧ 1 < (2 : Byte).toNat ∧ (1 : Byte).toNat = codeHaltPolicy .freeze
    ∧ ((running followerPlan .free).halt.policy = .ignore ∧ (running followerPlan .free).halt.level = .high)
    ∧ (∃ s : State, s.halt.policy = .ignore ∧ s.halt.level = .low ∧ s.core.state ≠ .idle ∧ s.core.state ≠ .halted)
    ∧ (∃ s : State, s.halt.policy = .freeze ∧ s.halt.level = .high ∧ s.core.state ≠ .idle ∧ s.core.state ≠ .halted)
    ∧ (∃ s : State, s.halt.policy = .freeze ∧ s.halt.level = .low ∧ s.core.state = .halted ∧ activePlan s = some followerPlan
        ∧ s.core.remembered = some .locked ∧ s.core.takeover = false ∧ s.sel.joined = false) :=
  ⟨asking_takes _ _ _ rfl, by decide, by decide, by decide,
   ⟨{ running followerPlan .free with halt := ⟨.ignore, .low⟩ }, by decide +kernel⟩, ⟨{ running followerPlan .free with halt := ⟨.freeze, .high⟩ }, by decide +kernel⟩,
   ⟨{ running followerPlan .halted with
      halt := ⟨.freeze, .low⟩, core := { coreIn followerPlan .halted with remembered := some .locked, valid := true, record := ⟨0, true⟩ } }, by decide +kernel⟩⟩

/-- A core halted from a state, with L0 usable and selected or not. -/
def haltedFrom (p : Plan) (st : CoreState) (takeover : Bool) (sel : Selection) : State :=
  { awaiting false (running p .halted) with
    halt := ⟨.freeze, .low⟩, sel := sel
    core := { coreIn p .halted with remembered := some st, valid := counting st, record := ⟨0, counting st⟩, takeover := takeover } }

theorem haltedFrom_keeps_the_core_invariant (p : Plan) (st : CoreState) (takeover : Bool) (sel : Selection) (hi : st ≠ .idle) (hh : st ≠ .halted) :
    CoreInv (haltedFrom p st takeover sel).core := by
  refine ⟨rfl, nofun, id, by simp [haltedFrom, coreIn, ownGrade], ?_, ?_, ?_, trivial, Nat.zero_le _, fun _ => rfl, rfl, fun _ => nofun⟩
  · simpa [haltedFrom] using hi
  · simpa [haltedFrom] using hh
  · rintro x hx hc
    obtain rfl : st = x := by simpa [haltedFrom] using hx
    exact hc

/-- HaltReleaseResumesTheCore: each state that R21 chooses, under each role that can reach it. -/
theorem test_witness_release_of_halt :
    ∀ x ∈ ([(followerPlan, .locked, false, ⟨some 0, true⟩), (followerPlan, .locked, false, ⟨some 0, false⟩), (followerPlan, .acquiring, false, ⟨none, false⟩),
      (followerPlan, .holdover, false, ⟨none, false⟩), (followerPlan, .free, false, ⟨some 0, false⟩), (backupPlan, .locked, false, ⟨some 0, false⟩),
      (backupPlan, .holdover, false, ⟨none, false⟩), (backupPlan, .free, false, ⟨some 0, false⟩), (backupPlan, .master, true, ⟨none, false⟩),
      (backupPlan, .master, true, ⟨some 0, false⟩)] : List (Plan × CoreState × Bool × Selection)),
    let s := haltedFrom x.1 x.2.1 x.2.2.1 x.2.2.2
    s.halt.level = .low ∧ s.halt.policy = .freeze ∧ s.core.state = .halted ∧ PlanInv s ∧ activePlan s = some x.1 ∧ s.core.remembered = some x.2.1 := by
  unfold PlanInv DirectionsFollowPlan TakeoverIsBackup
  decide +kernel

theorem test_witness_release_of_a_master :
    let s := { running masterPlan .halted with
      halt := ⟨.freeze, .low⟩, core := { coreIn masterPlan .halted with remembered := some .master, valid := true, record := ⟨0, true⟩ } }
    PlanInv s ∧ activePlan s = some masterPlan ∧ s.core.takeover = false := by
  unfold PlanInv DirectionsFollowPlan TakeoverIsBackup
  decide +kernel

/-- TimeStartIsRefusedInOrder: WRONG_STATE outside IDLE, an index of 4, an EMPTY plan, and a MASTER plan without a start value. -/
theorem test_witness_time_start_refused :
    TakesRequest 7 0x0B [3] (asking 0x0B [3] (loaded masterPlan)) ∧ (running masterPlan .free).core.state ≠ .idle
    ∧ (loaded masterPlan).core.state = .idle ∧ ¬((loaded masterPlan).halt.policy = .freeze ∧ (loaded masterPlan).halt.level = .low)
    ∧ 3 < byteAt [4] 0 ∧ byteAt [3] 0 = (3 : PlanNo).val ∧ (loaded masterPlan).plans.records.get 3 = none
    ∧ byteAt [0] 0 = (0 : PlanNo).val ∧ (loaded masterPlan).plans.records.get 0 = some masterPlan ∧ masterPlan.role = .master
    ∧ (∃ h : Halt, h.policy = .freeze ∧ h.level = .low) :=
  ⟨asking_takes _ _ _ rfl, by decide +kernel, rfl, by decide, by decide, rfl, rfl, rfl, rfl, rfl, ⟨⟨.freeze, .low⟩, rfl, rfl⟩⟩

theorem loaded_keeps_the_plan_invariant (p : Plan) : PlanInv (asking 0x0B [0] (loaded p)) :=
  ⟨⟨fun _ => rfl, fun _ => rfl⟩, nofun, (by intro l; fin_cases l <;> rfl), (by intro l; fin_cases l <;> exact ⟨fun _ => nofun, fun _ => rfl⟩), nofun, nofun, nofun,
    fun _ => ⟨rfl, rfl, nofun⟩⟩

theorem reset_core_keeps_the_invariant : CoreInv Core.reset :=
  ⟨rfl, by decide, by decide, by decide, nofun, nofun, nofun, rfl, by decide, fun _ => rfl, rfl, fun _ => nofun⟩

/-- TimeStartIsCarriedOutWhole, with and without a start value; TimeStopIsCarriedOutWhole, in IDLE and outside. -/
theorem test_witness_time_start :
    PlanInv (asking 0x0B [0] (loaded followerPlan)) ∧ CoreInv (asking 0x0B [0] (loaded followerPlan)).core
    ∧ (∀ l, LinkInv (link l (asking 0x0B [0] (loaded followerPlan)))) ∧ (asking 0x0B [0] (loaded followerPlan)).core.state = .idle
    ∧ ([0] : List Byte) = [BitVec.ofNat 8 (0 : PlanNo).val] ∧ followerPlan.role ≠ .master ∧ TakesRequest 7 0x0B [0] (asking 0x0B [0] (loaded followerPlan))
    ∧ TakesRequest 7 0x0B (0 :: u64 9) (asking 0x0B (0 :: u64 9) (loaded masterPlan))
    ∧ TakesRequest 7 0x0C [] (asking 0x0C [] State.reset) ∧ State.reset.core.state = .idle
    ∧ TakesRequest 7 0x0C [] (asking 0x0C [] (running followerPlan .free)) ∧ (asking 0x0C [] (running followerPlan .free)).core.state ≠ .idle :=
  ⟨loaded_keeps_the_plan_invariant _, reset_core_keeps_the_invariant,
   by intro l; fin_cases l <;> exact ⟨by decide +kernel, fun _ => Or.inl rfl, by decide +kernel, by decide +kernel⟩, rfl, rfl, by decide, asking_takes _ _ _ rfl, asking_takes _ _ _ rfl, asking_takes _ _ _ rfl, rfl, asking_takes _ _ _ rfl,
   by decide +kernel⟩

/-- The payload of an ACTION_ADD: a SWITCH to P1, due 9, with the propagate flag and an order id. -/
def switchOrder : List Byte := 2 :: 1 :: u64 9 ++ (1 :: List.replicate 7 0) ++ u16 5

theorem full_schedule_keeps_the_invariant :
    ScheduleInv (scheduled ((List.range 32).map (fun i => entry (i + 1) (.load 0) (BitVec.ofNat 64 i))) State.reset).sched :=
  ⟨by decide +kernel, by decide +kernel, by decide +kernel, by decide +kernel, by decide, by decide, nofun, by decide +kernel, by decide, by decide⟩

/-- ActionAddInsertsOneEntry: check 3 passed and failed, due at the final value and just above, a known order id, a full queue, and room for one more; and
OrderIsInsertedOrCounted's premise. -/
theorem test_witness_action_add :
    TakesRequest 7 0x0E switchOrder (asking 0x0E switchOrder (running followerPlan .free)) ∧ switchOrder.length = 20
    ∧ addedAction switchOrder = some (.switch 1, some 5) ∧ addedAction (switchOrder.set 10 4) = none
    ∧ addedAction (switchOrder.take 18) = none ∧ (switchOrder.take 18).length = 18
    ∧ ScheduleInv State.reset.sched ∧ State.reset.core.valid = false ∧ (coreIn followerPlan .free).valid = true
    ∧ (timeAt switchOrder 2).toNat ≤ (9 : Time).toNat ∧ (8 : Time).toNat < (timeAt switchOrder 2).toNat
    ∧ (∃ c : Schedule, (5 : OrderId) ∈ c.spent)
    ∧ (∃ s : State, ScheduleInv s.sched ∧ s.sched.queue.length = 32) :=
  ⟨asking_takes _ _ _ rfl, by decide +kernel, by decide +kernel, by decide +kernel, by decide +kernel, by decide +kernel,
   ⟨by decide, by decide, by decide, by decide, by decide, by decide, nofun, nofun, by decide, by decide⟩, rfl, rfl, by decide +kernel, by decide +kernel,
   ⟨{ Schedule.reset with spent := [5] }, by decide⟩, ⟨_, full_schedule_keeps_the_invariant, by decide +kernel⟩⟩

/-- ActionCancelFinishesTheEntry: the last id, an id not held, and 0. -/
theorem test_witness_action_cancel :
    TakesRequest 7 0x0F [255] (asking 0x0F [255] (scheduled [entry 1 (.load 0) 0, entry 255 (.load 0) 0] State.reset))
    ∧ [entry 1 (.load 0) 0, entry 255 (.load 0) 0] = [entry 1 (.load 0) 0] ++ entry 255 (.load 0) 0 :: [] ∧ (entry 255 (.load 0) 0).id = (255 : Byte).toNat
    ∧ (∀ x ∈ [entry 1 (.load 0) 0] ++ [], x.id ≠ (255 : Byte).toNat) ∧ (∀ e ∈ [entry 1 (.load 0) 0], e.id ≠ (255 : Byte).toNat) :=
  ⟨asking_takes _ _ _ rfl, rfl, rfl, by decide, by decide⟩

/-- FiringSettlesTheDueEntry: an entry due at the sync time itself, the next one just after, for each kind of action. -/
theorem test_witness_firing : ∀ a ∈ [Action.load 3, .switch 0, .switch 3, .pulse 3 1 0, .pulse 3 65535 65535],
    dueEntries 9 [entry 1 a 9, entry 2 a 10] = [entry 1 a 9] ∧ [entry 1 a 9, entry 2 a 10] = [] ++ entry 1 a 9 :: [entry 2 a 10]
    ∧ (∀ x ∈ [] ++ [entry 2 a 10], x.id ≠ (entry 1 a 9).id) ∧ [entry 1 a 9, entry 2 a 10].Pairwise (fun a b => a.due.toNat ≤ b.due.toNat) := by decide +kernel

/-- FiringSettlesTheDueEntry, several entries: two LOADs, two SWITCHes and two PULSEs at one sync, one entry not yet due, and the outcomes they get. -/
theorem test_witness_firing_of_several :
    let queue := [entry 1 (.load 3) 7, entry 2 (.switch 0) 7, entry 3 (.pulse 3 1 0) 8, entry 4 (.load 5) 8, entry 5 (.switch 0) 9, entry 6 (.pulse 0 1 1) 9,
      entry 7 (.switch 2) 9, entry 8 (.load 9) 10]
    let es := queue.filter (fun e => e.outcome.isNone && decide (e.due.toNat ≤ (9 : Time).toNat))
    es = queue.take 7 ∧ (queue.map Entry.id).Nodup ∧ queue.Pairwise (fun a b => a.due.toNat ≤ b.due.toNat) ∧ afterLoads es 9 = 5
    ∧ (settledEntries ⟨some followerPlan, none, none, none⟩ ⟨7, true⟩ es).map Prod.snd
        = [.superseded, .superseded, .done, .done, .done, .done, .refused] := by decide +kernel

/-- OrderIsInsertedOrCounted and MessageSetHoldsAnnounceQualityAndOrders: a known order id, one passed and one not, and three entries offered as two. -/
theorem test_witness_orders :
    ({ State.reset with sel := ⟨some 5, false⟩ } : State).sel.source = some 5 ∧ State.reset.sel.source ≠ some 5
    ∧ (∃ e ∈ [{ entry 1 (.load 0) 0 with orderId := some 5 }], e.orderId = some 5) ∧ (∀ e ∈ [entry 1 (.load 0) 0], e.orderId ≠ some 5)
    ∧ (running followerPlan .free).plans.active = some 0 ∧ (running followerPlan .free).plans.records.get 0 = some followerPlan
    ∧ ((List.range 3).map (fun i => { entry (i + 1) (.load 0) 0 with sends := 3 })).length = 3
    ∧ (((List.range 3).map (fun i => { entry (i + 1) (.load 0) 0 with sends := 3 })).map Entry.id).Nodup
    ∧ (((List.range 3).map (fun i => { entry (i + 1) (.load 0) 0 with sends := 3 })).filter
        (fun e => e.outcome.isNone && decide (0 < e.sends))).length = 3 := by decide +kernel

/-- EventEdgeIsStoredOrCounted: a level judged before, a choice that accepts and one that does not, and a FIFO of 63 and of 64 records. -/
theorem test_witness_edges :
    State.reset.capture.levels.get 3 = .low ∧ State.reset.capture.levels.get 3 ≠ .high
    ∧ ¬(State.reset.capture.edges.get 3 = .both ∨ State.reset.capture.edges.get 3 = .rising)
    ∧ (nextOf (exec .generatorStep lateMaster)).map (fun s => decide (s.caughtUp = some s.toBlocks)) = some true ∧ State.reset.caughtUp = none
    ∧ (Per4.all EdgeChoice.both).get 3 = .both ∧ (List.replicate 63 someRecord).length < 64 ∧ 64 ≤ (List.replicate 64 someRecord).length
    ∧ ({ State.reset with edgeAt := some (7, 3) } : State).edgeAt = some (7, 3) ∧ State.reset.edgeAt = none
    ∧ ¬RestartLeaves { State.reset with edgeAt := some (7, 3) } :=
  ⟨by decide +kernel, by decide +kernel, by decide +kernel, by decide +kernel, by decide +kernel, by decide +kernel, by decide +kernel, by decide +kernel, rfl, rfl,
   fun h => absurd h.1 (by decide)⟩

/-- WidthEndAndHoldoverExpiry, PairsOutsideReceive. -/
theorem test_witness_expiry_and_pairs :
    (∃ s : State, activePlan s = some followerPlan ∧ s.core.state = .holdover ∧ s.core.syncWork.isSome ∧ s.core.gen.running = true
      ∧ followerPlan.limit ≠ 0 ∧ followerPlan.limit ≤ s.core.holdoverCount)
    ∧ (link 1 (running followerPlan .free)).dir ≠ .receive
    ∧ (∃ s : State, (link 1 s).dir = .send ∧ s.core.valid = true ∧ s.core.state = .free ∧ (link 1 s).pair.busy = 0
      ∧ (link 1 s).pair.waiting = ⟨.plain, none⟩ :: [])
    ∧ (∃ s : State, (link 2 s).dir = .off ∧ s.core.valid = true ∧ s.core.state = .free ∧ (link 2 s).pair.busy = 0
      ∧ (link 2 s).pair.waiting = ⟨.sync, none⟩ :: [])
    ∧ (∃ q : Pulse, q.active = true ∧ 1 < q.width) ∧ (∃ q : Pulse, q.active = true ∧ q.width ≤ 1)
    ∧ (∃ q : Pair, q.busy ≠ 0) ∧ Pair.reset.busy = 0 ∧ Pair.reset.waiting = [] :=
  ⟨⟨{ running followerPlan .holdover with core := { coreIn followerPlan .holdover with syncWork := some 1, holdoverCount := 2 } }, by decide +kernel⟩,
   by decide +kernel,
   ⟨setLink 1 { link 1 (running followerPlan .free) with pair := { Pair.reset with waiting := [⟨.plain, none⟩] } } (running followerPlan .free),
    by decide +kernel⟩,
   ⟨setLink 2 { link 2 (running followerPlan .free) with pair := { Pair.reset with waiting := [⟨.sync, none⟩] } } (running followerPlan .free),
    by decide +kernel⟩,
   ⟨⟨.activeHigh, true, 2⟩, by decide⟩, ⟨⟨.activeHigh, true, 1⟩, by decide⟩, ⟨{ Pair.reset with busy := 4 }, by decide⟩, rfl, rfl⟩

/-- FirstMarkLeavesSeek: the RECEIVE link of a plan just started. -/
theorem test_witness_first_mark :
    activePlan (running followerPlan .acquiring) = some followerPlan ∧ (link 0 (running followerPlan .acquiring)).dir = .receive
    ∧ (link 0 (running followerPlan .acquiring)).qual.state = .seek ∧ (running followerPlan .acquiring).sel.source ≠ some 0
    ∧ choose followerPlan (running followerPlan .acquiring) = (running followerPlan .acquiring).sel.source := by decide +kernel

/-- FirstMarkLeavesSeek, the verdicts: on a RECEIVE link that no plan's list names, a good mark, a bad step and a sync fault, and the counts at their limits. -/
theorem test_witness_verdicts :
    let p := { followerPlan with cands := [] }
    let good := { seekQual Qualifier.reset with sinceMark := 18, phase := some 3 }
    (IntervalIsGood p good ∧ ¬PlainMarkIsFault good) ∧ ¬IntervalIsGood p { good with sinceMark := 19 }
    ∧ PlainMarkIsFault { good with phase := some 63, intervalSps := some 64 }
    ∧ (p.validity ≤ min (2 + 1) 255 ∧ good.phase.isSome) ∧ min (1 + 1) 255 < p.validity ∧ (0 + 1 ≤ p.grace ∧ p.grace < 1 + 1)
    ∧ (∀ st ∈ [QualState.valid, .qualifying, .suspect], let s := setQual 0 { good with state := st, good := 2, bad := 1 } (running p .free)
        activePlan s = some p ∧ (link 0 s).dir = .receive ∧ s.sel.source ≠ some 0 ∧ choose p s = s.sel.source ∧ (link 0 s).holdoff ≠ 0) :=
  ⟨⟨⟨by decide, by decide⟩, by rintro ⟨n, _, h⟩; exact absurd h nofun⟩, by unfold IntervalIsGood; decide, ⟨63, rfl, rfl⟩, by decide, by decide, by decide,
   by decide +kernel⟩

/-- FirstMarkLeavesSeek, the verdicts of a sync mark: good, at another phase, with no announce seen, and the first that sets the phase. -/
theorem test_witness_sync_verdicts :
    let p := { followerPlan with cands := [] }
    let good := { seekQual Qualifier.reset with sinceMark := 16, phase := some 63, intervalSps := some 64, announceSeen := true }
    (IntervalIsGood p good ∧ ¬SyncMarkIsFault good) ∧ SyncMarkIsFault { good with phase := some 62 } ∧ SyncMarkIsFault { good with announceSeen := false }
    ∧ ¬SyncMarkIsFault { good with phase := none } ∧ ¬IntervalIsGood p { good with sinceMark := 19 }
    ∧ p.validity ≤ min (2 + 1) 255 ∧ min (1 + 1) 255 < p.validity
    ∧ (∀ st ∈ [QualState.valid, .qualifying, .suspect], let s := setQual 0 { good with state := st, good := 2, bad := 1 } (running p .free)
        activePlan s = some p ∧ (link 0 s).dir = .receive ∧ s.sel.source ≠ some 0 ∧ choose p s = s.sel.source ∧ (link 0 s).rx.msg = []
        ∧ (link 0 s).rx.qualLast = none ∧ (link 0 s).holdoff ≠ 0) :=
  ⟨⟨⟨by decide, by decide⟩, by rintro ⟨n, h, ho⟩; rcases Option.some.inj h with rfl; exact absurd ho (by decide)⟩,
   ⟨62, rfl, by decide⟩, ⟨63, rfl, by decide⟩, by rintro ⟨n, h, _⟩; exact absurd h nofun, by unfold IntervalIsGood; decide, by decide, by decide,
   by decide +kernel⟩

/-- L0 selected, its qualifier waiting for a good mark. -/
def following (st : CoreState) (joined sync : Bool) : State :=
  { awaiting sync (running followerPlan st) with sel := ⟨some 0, joined⟩, outSet := some [1, 2, 3] }

/-- GoodMarkOfTheJoinedSourceIsCounted. -/
theorem test_witness_good_mark :
    activePlan (following .locked true false) = some followerPlan ∧ (link 0 (following .locked true false)).dir = .receive
    ∧ (following .locked true false).sel = { source := some 0, joined := true } ∧ (following .locked true false).core.state = .locked
    ∧ (following .locked true false).core.valid = true ∧ (following .locked true false).core.gen.running = false
    ∧ (following .locked true false).core.steps < 4294967295 ∧ (following .locked true false).outSet = some [1, 2, 3]
    ∧ AwaitsGoodMark followerPlan false (link 0 (following .locked true false)).qual :=
  ⟨by decide +kernel, by decide +kernel, by decide +kernel, by decide +kernel, by decide +kernel, by decide +kernel, by decide +kernel, by decide +kernel,
   by decide, by decide, by decide, 63, 80, by decide, by decide, by decide, by decide⟩

/-- GoodMarkOfTheJoinedSourceIsCounted, a bad mark and a SUSPECT source: a bad step and a sync fault of a VALID source that stays selected, a bad step within the
grace, and a good mark below and at the validity count. -/
theorem test_witness_marks_of_a_suspect_source :
    let s := following .locked true false
    let q := { (link 0 s).qual with sinceMark := 19 }
    let suspect := { (link 0 s).qual with state := .suspect, good := 1, bad := 0 }
    ¬IntervalIsGood followerPlan q ∧ IntervalIsGood followerPlan suspect ∧ PlainMarkIsFault { suspect with phase := some 63, intervalSps := some 64 }
    ∧ q.state = .valid ∧ suspect.bad + 1 ≤ followerPlan.grace ∧ choose followerPlan (setQual 0 { q with state := .suspect } s) = some 0
    ∧ choose followerPlan s = some 0 ∧ followerPlan.validity ≤ min (2 + 1) 255 ∧ min (suspect.good + 1) 255 < followerPlan.validity :=
  ⟨by unfold IntervalIsGood; decide +kernel, ⟨by decide +kernel, by decide +kernel⟩, ⟨63, rfl, rfl⟩, by decide +kernel, by decide +kernel, by decide +kernel,
   by decide +kernel, by decide +kernel, by decide +kernel⟩

/-- GoodMarkOfTheJoinedSourceIsCounted, in ACQUIRING: a plain mark, and a sync mark that ends an interval with no announce. -/
theorem test_witness_acquiring :
    let s := following .acquiring false false
    let u := setQual 0 { (link 0 s).qual with announceSeen := false } s
    activePlan s = some followerPlan ∧ (link 0 s).dir = .receive ∧ s.sel = { source := some 0, joined := false } ∧ s.core.state = .acquiring
    ∧ AwaitsGoodMark followerPlan false (link 0 s).qual
    ∧ (link 0 u).qual.state = .valid ∧ (link 0 u).qual.phase.isSome ∧ IntervalIsGood followerPlan (link 0 u).qual ∧ (link 0 u).qual.announceSeen = false
    ∧ (link 0 u).rx.msg = [] ∧ (link 0 u).rx.annCur = none ∧ (link 0 u).rx.qualLast = none
    ∧ choose followerPlan (setQual 0 { (link 0 u).qual with state := .suspect } u) = some 0 :=
  ⟨by decide +kernel, by decide +kernel, by decide +kernel, by decide +kernel, ⟨by decide, by decide, by decide, 63, 80, by decide, by decide, by decide, by decide⟩,
   by decide +kernel, by decide +kernel, ⟨by decide, by decide⟩, by decide +kernel, by decide +kernel, by decide +kernel, by decide +kernel, by decide +kernel⟩

/-- The same with an announce and a QUALITY of the interval received. -/
def informed (st : CoreState) (joined : Bool) (v : Time) : State :=
  setRx 0 { Receiver.reset with annCur := some ⟨v, 0⟩, qualCur := some ⟨4, 14, false, .master⟩ } (following st joined true)

theorem informed_awaits (st : CoreState) (joined : Bool) (v : Time) : AwaitsGoodMark followerPlan true (link 0 (informed st joined v)).qual :=
  ⟨rfl, Nat.le_add_right 16 2, Nat.le_add_right 16 2, 63, 64, rfl, by decide, rfl, rfl, rfl⟩

/-- SyncMarkWithAnnounceJoins, out of MASTER in takeover, from a source with no QUALITY, with a realign arranged for the sync. -/
theorem test_witness_join_of_a_master :
    let s := setRx 0 { Receiver.reset with annCur := some ⟨9, 0⟩ } { awaiting true (running backupPlan .master) with
      sel := ⟨some 0, false⟩, outSet := some [1]
      core := { coreIn backupPlan .master with takeover := true, outRealign := some 1 } }
    activePlan s = some backupPlan ∧ (link 0 s).dir = .receive ∧ s.core.state = .master ∧ s.core.takeover = true ∧ backupPlan.revertive = true
    ∧ backupPlan.role ≠ .master ∧ AwaitsGoodMark backupPlan true (link 0 s).qual ∧ (link 0 s).rx.annCur = some ⟨9, 0⟩ ∧ (link 0 s).rx.qualCur = none
    ∧ (link 0 s).rx.qualLast = none ∧ s.core.outRealign = some (s.core.syncIndex + 1) ∧ dueEntries 9 s.sched.queue = [] ∧ s.outSet.isSome :=
  ⟨by decide +kernel, by decide +kernel, by decide +kernel, rfl, rfl, by decide, ⟨rfl, by decide, by decide, 63, 64, rfl, by decide, rfl, rfl, rfl⟩,
   by decide +kernel, by decide +kernel, by decide +kernel, by decide +kernel, by decide +kernel, rfl⟩

theorem acquiring_core_keeps_the_invariant : CoreInv (informed .acquiring false 9).core :=
  ⟨rfl, by decide, by decide, by decide, nofun, nofun, nofun, rfl, by decide, nofun, rfl, fun _ => nofun⟩

/-- SyncMarkWithAnnounceJoins, out of each of the three other states. -/
theorem test_witness_join : ∀ st ∈ [CoreState.acquiring, .holdover, .free],
    activePlan (informed st true 9) = some followerPlan ∧ (link 0 (informed st true 9)).dir = .receive
    ∧ (informed st false 9).sel = { source := some 0, joined := false } ∧ (informed st false 9).core.state = st
    ∧ (link 0 (informed st false 9)).rx.msg = [] ∧ (link 0 (informed st false 9)).rx.annCur = some ⟨9, 0⟩
    ∧ (link 0 (informed st false 9)).rx.qualCur = some ⟨4, 14, false, .master⟩ ∧ dueEntries 9 (informed st false 9).sched.queue = []
    ∧ (informed st false 9).plans.held = none ∧ (informed st false 9).outSet.isSome := by decide +kernel

/-- TimeCheckReportsOrResyncs: the value reached and another one; and an interval with no announce. -/
theorem test_witness_time_check : ∀ n ∈ [1, 9], let v : Time := BitVec.ofNat 64 n
    activePlan (informed .locked true v) = some followerPlan ∧ (informed .locked true v).core.state = .locked ∧ (informed .locked true v).core.valid = true
    ∧ (informed .locked true v).core.gen.running = false ∧ (informed .locked true v).core.realignPending = false
    ∧ (link 0 (informed .locked true v)).rx.annCur = some ⟨v, 0⟩ ∧ (informed .locked true v).core.time + 1 = 1
    ∧ dueEntries v (informed .locked true v).sched.queue = [] ∧ dueEntries 1 (informed .locked true v).sched.queue = []
    ∧ (informed .locked true v).outSet.isSome ∧ (link 0 (following .locked true true)).rx.annCur = none := by decide +kernel

/-- WholeMessageIsAcceptedOrCounted: a FAILED link with all but the last byte of an announce, and a wrong last byte. -/
theorem test_witness_message :
    (messageBytes (.announce ⟨9, 3⟩)).dropLast ++ [(messageBytes (.announce ⟨9, 3⟩)).getLastD 0] = messageBytes (.announce ⟨9, 3⟩)
    ∧ (messageBytes (.announce ⟨9, 3⟩)).dropLast = (0xA1 : Byte) :: (u64 9 ++ [3]) ∧ messageLength 0xA1 = some ((u64 9 ++ [(3 : Byte)]).length + 2)
    ∧ messageOf (messageBytes (.announce ⟨9, 3⟩)) = some (.announce ⟨9, 3⟩)
    ∧ crc8 ((0xA1 : Byte) :: (u64 9 ++ [3])) ≠ (messageBytes (.announce ⟨9, 3⟩)).getLastD 0 + 1 := by decide +kernel

/-- WholeMessageIsAcceptedOrCounted: the FAILED link itself; a QUALITY; fields out of range; a message that goes on, one that begins, and an unknown type; and a
QUALITY of the joined source that repeats its grade and hops, and one that changes them. -/
theorem test_witness_link_bytes :
    let s := setQual 0 { Qualifier.reset with state := .failed } (running followerPlan .free)
    let q : Quality := ⟨4, 14, false, .master⟩
    (activePlan s = some followerPlan ∧ (link 0 s).dir = .receive ∧ (link 0 s).qual.state = .failed ∧ s.sel.source ≠ some 0
      ∧ choose followerPlan s = s.sel.source)
    ∧ (messageBytes (.quality q)).dropLast ++ [(messageBytes (.quality q)).getLastD 0] = messageBytes (.quality q)
    ∧ (∀ m ∈ ([0xA1 :: (u64 9 ++ [4]), [0xA2, 4, 16, 0, 2], 0xB1 :: List.replicate 18 0, 0xB2 :: (u16 1 ++ u64 9 ++ [4] ++ List.replicate 7 0),
        0xB3 :: (u16 1 ++ u64 9 ++ [3, 0, 0] ++ List.replicate 5 0)] : List (List Byte)),
        messageLength (m.headD 0) = some (m.tail.length + 2)
          ∧ ((byteAt m 0 = 0xA1 ∧ 3 < byteAt m 9)
            ∨ (byteAt m 0 = 0xA2 ∧ (4 < byteAt m 1 ∨ 15 < byteAt m 2 ∨ 1 < byteAt m 3 ∨ byteAt m 4 < 2 ∨ 5 < byteAt m 4))
            ∨ (byteAt m 0 = 0xB1 ∧ numAt m 1 2 = 0)
            ∨ (byteAt m 0 = 0xB2 ∧ (numAt m 1 2 = 0 ∨ 3 < byteAt m 11))
            ∨ (byteAt m 0 = 0xB3 ∧ (numAt m 1 2 = 0 ∨ 3 < byteAt m 11 ∨ numAt m 12 2 = 0))))
    ∧ (messageLength 0xA1 = some 11 ∧ (u64 9).length + 2 < 11) ∧ messageLength 0xA0 = none
    ∧ (activePlan (informed .locked true 9) = some followerPlan ∧ (informed .locked true 9).sel = { source := some 0, joined := true }
      ∧ gradeAndHops (some q) = gradeAndHops (latestQuality (link 0 (informed .locked true 9)).rx)
      ∧ gradeAndHops (some { q with grade := 3 }) ≠ gradeAndHops (latestQuality (link 0 (informed .locked true 9)).rx)
      ∧ choose followerPlan (acceptMessage 0 (.quality { q with grade := 3 }) (informed .locked true 9)) = some 0) := by decide +kernel

/-- LinkTimersMoveTheQualifier: the joined source of a LOCKED follower lost 40 ticks after its last counted mark, two nominal steps behind. -/
theorem test_witness_loss_of_the_joined_source :
    let s0 := following .locked true false
    let s := setQual 0 { (link 0 s0).qual with loss := some 0 } { s0 with core := { s0.core with ticks := 40, gen := { s0.core.gen with elapsed := 40 } } }
    activePlan s = some followerPlan ∧ 16 ≤ followerPlan.nominal ∧ s.sel = { source := some 0, joined := true } ∧ s.core.state = .locked ∧ s.core.valid = true
    ∧ s.core.takeover = false ∧ s.core.gen.running = false ∧ s.core.learned.length < 8 ∧ 0 < s.core.ticks ∧ (link 0 s).qual.loss = some 0
    ∧ (link 0 s).qual.state = .valid ∧ (link 0 s).holdoff ≠ 0 ∧ (∀ m ∈ followerPlan.cands, m ≠ 0 → usable followerPlan s m = false) ∧ s.outSet = some [1, 2, 3]
    ∧ 2 = s.core.gen.elapsed / followerPlan.nominal ∧ s.core.steps + 2 < followerPlan.sps := by decide +kernel

/-- LinkTimersMoveTheQualifier: a link that is not selected, its timer run out, in each state that acts. -/
theorem test_witness_link_timers : ∀ st ∈ [QualState.valid, .suspect, .qualifying, .failed],
    let s := setQual 0 { Qualifier.reset with state := st, loss := some 0, hold := some 0 } (running { followerPlan with cands := [] } .free)
    activePlan s = some { followerPlan with cands := [] } ∧ (link 0 s).qual.state = st ∧ (link 0 s).qual.loss = some 0 ∧ (link 0 s).qual.hold = some 0
    ∧ s.sel.source ≠ some 0 ∧ choose { followerPlan with cands := [] } s = s.sel.source ∧ (link 0 s).holdoff ≠ 0
    ∧ (link 0 (setLink 0 { link 0 s with holdoff := 0 } s)).holdoff = 0 := by decide +kernel

/-- SelectionFollowsThePlan, SelectionChangeMovesTheCore: a usable source kept, one lost, and one found. -/
theorem test_witness_selection :
    activePlan (following .locked true false) = some followerPlan ∧ followerPlan.revertive = false ∧ usable followerPlan (following .locked true false) 0 = true
    ∧ choose followerPlan (following .locked true false) = (following .locked true false).sel.source
    ∧ usable followerPlan { running followerPlan .locked with sel := ⟨some 0, true⟩ } 0 = false
    ∧ choose followerPlan { running followerPlan .locked with sel := ⟨some 0, true⟩ } = none ∧ (coreIn followerPlan .locked).takeover = false
    ∧ choose { followerPlan with role := .backup } (running { followerPlan with role := .backup } .free) = none
    ∧ choose { followerPlan with role := .backup } { running { followerPlan with role := .backup } .free with sel := ⟨some 0, false⟩ } ≠ some 0
    ∧ ({ followerPlan with revertive := true } : Plan).revertive = true
    ∧ (coreIn followerPlan .locked).learned.length ≠ 8 ∧ (List.replicate 8 16).length = 8 ∧ (coreIn followerPlan .locked).gen.running = false := by decide +kernel

/-- FailoverTakesTheFirstEligiblePlan: P1 EMPTY and passed over, P2 eligible. -/
theorem test_witness_failover :
    let s := { awaiting false (running followerPlan .free) with
      plans := { records := ⟨some followerPlan, none, some followerPlan, none⟩, active := some 0, fallback := [1, 2], held := none } }
    activePlan s = some followerPlan ∧ s.plans.fallback = [1] ++ 2 :: [] ∧ (∀ m ∈ ([1] : List PlanNo), eligible s m = false) ∧ eligible s 2 = true
    ∧ s.plans.records.get 2 = some followerPlan := by decide +kernel

/-- FailoverTakesTheFirstEligiblePlan, a held target: the active plan, and another LOADED one; links that keep and that change their direction under it; and a core
that counts under each role, LOCKED to its joined source and not. -/
theorem test_witness_held_target :
    let s := { running followerPlan .free with
      plans := { records := ⟨some followerPlan, none, none, some masterPlan⟩, active := some 0, fallback := [], held := some 3 } }
    s.plans.held = some 3 ∧ s.plans.active ≠ some 3 ∧ s.plans.records.get 3 = some masterPlan
    ∧ ({ s with plans := { s.plans with held := some 0 } } : State).plans.held = s.plans.active
    ∧ (link 1 s).dir = masterPlan.dirs.get 1 ∧ (link 0 s).dir ≠ masterPlan.dirs.get 0
    ∧ counting (following .locked true false).core.state ∧ (following .locked true false).sel.joined = true ∧ counting s.core.state
    ∧ s.sel.source = none ∧ s.core.gen.running = true ∧ (following .locked true false).core.gen.running = false
    ∧ followerPlan.role = .follower ∧ backupPlan.role = .backup ∧ masterPlan.role = .master := by decide +kernel

/-- GeneratorStepCountsOnePlainStep and GeneratorStepTakesTheSync, in HOLDOVER: a valid learned record, the second interval next, and the limit reached. -/
theorem test_witness_generator_alone :
    let s := { running followerPlan .holdover with
      outSet := some [1]
      core := { coreIn followerPlan .holdover with
        learned := [16, 17, 18, 19, 20, 21, 22, 23], holdoverCount := 1
        gen := { running := true, elapsed := 20, spacing := 16, fromRecord := true, cycle := 0 } } }
    let g : Generator := { running := true, elapsed := 4, spacing := 17, fromRecord := true, cycle := 1 }
    activePlan s = some followerPlan ∧ s.core.state = .holdover ∧ s.plans.fallback = [] ∧ s.core.valid = true ∧ s.core.gen.spacing ≤ s.core.gen.elapsed
    ∧ g.elapsed = s.core.gen.elapsed - s.core.gen.spacing ∧ NextInterval followerPlan s.core g ∧ g.elapsed < g.spacing
    ∧ followerPlan.limit ≠ 0 ∧ followerPlan.limit ≤ min (s.core.holdoverCount + 1) 65535 :=
  ⟨by decide +kernel, rfl, rfl, rfl, by decide, by decide, ⟨rfl, rfl, rfl⟩, by decide, by decide, by decide⟩

/-- GeneratorStepCountsOnePlainStep and GeneratorStepTakesTheSync: the last plain step of an interval, and its sync. -/
theorem test_witness_generator :
    activePlan dueMaster = some masterPlan ∧ dueMaster.core.state = .master ∧ dueMaster.core.valid = true ∧ dueMaster.core.gen.running = true
    ∧ dueMaster.core.gen.spacing ≤ dueMaster.core.gen.elapsed ∧ dueMaster.core.gen.elapsed - dueMaster.core.gen.spacing < masterPlan.nominal
    ∧ masterPlan.sps ≤ 8192 ∧ 62 + 1 < masterPlan.sps ∧ masterPlan.sps ≤ 63 + 1 ∧ dueMaster.outSet = some [1, 2, 3]
    ∧ dueEntries (dueMaster.core.time + 1) dueMaster.sched.queue = [] ∧ dueMaster.plans.held = none ∧ dueMaster.core.syncWork = none := by decide +kernel

/-- GeneratorStepCountsOnePlainStep with no set composed; GeneratorStepTakesTheSync with entries due, a target held and a failover to consider. -/
theorem test_witness_generator_work :
    (compose { dueMaster with outSet := none }).outSet.isSome
    ∧ (let s := scheduled [entry 1 (.load 9) 1, entry 2 (.switch 3) 1] { dueMaster with
        core := { dueMaster.core with steps := 63 }, plans := { dueMaster.plans with held := some 3, fallback := [1] } }
      activePlan s = some masterPlan ∧ masterPlan.sps ≤ s.core.steps + 1 ∧ (dueEntries (s.core.time + 1) s.sched.queue).length = 2 ∧ s.plans.held = some 3
      ∧ (nextOf (exec .generatorStep s)).map (fun t => (t.core.time, t.core.record.final, t.plans.held, t.core.syncWork)) = some (9, 9, none, none)) := by
  decide +kernel

/-- The premises of the six StepKeeps… statements: a request waiting, a full window with a round to resend, a core that runs alone, a LOADED plan, a full
schedule, and links in use. -/
theorem test_witness_invariants :
    ChannelInv (asking 0x01 [] State.reset).channel
    ∧ NoticeInv { (windowOf 4 State.reset).notices with nextSeq := 4, resend := [2, 3], timer := some 0, retry := 2 }
    ∧ CoreInv (coreIn followerPlan .free) ∧ PlanInv (asking 0x0B [0] (loaded followerPlan)) ∧ CoreInv (asking 0x0B [0] (loaded followerPlan)).core
    ∧ ScheduleInv (scheduled ((List.range 32).map (fun i => entry (i + 1) (.load 0) (BitVec.ofNat 64 i))) State.reset).sched
    ∧ LineInv (running followerPlan .free) ∧ (∀ l, LinkInv (link l (running followerPlan .free))) :=
  ⟨⟨rfl, by decide, by decide, nofun, Or.inl rfl, ⟨fun _ => rfl, fun _ => rfl⟩⟩,
   ⟨by decide, by decide, by rw [ConsecutiveWindow]; decide +kernel, by decide +kernel, by decide, nofun, by decide, by decide⟩,
   ⟨rfl, by decide, by decide, by decide, nofun, nofun, nofun, rfl, by decide, nofun, rfl, fun _ => nofun⟩, loaded_keeps_the_plan_invariant _,
   reset_core_keeps_the_invariant, full_schedule_keeps_the_invariant,
   ⟨by decide, by decide, by intro o _; fin_cases o <;> rfl⟩,
   by intro l; fin_cases l <;> exact ⟨by decide +kernel, fun _ => Or.inl rfl, by decide +kernel, by decide +kernel⟩⟩

/-- LinkMessageIsReadBack: fields at the ends of their ranges. -/
theorem test_witness_message_fields : (4 : Nat) ≤ 4 ∧ (15 : Nat) ≤ 15 ∧ (65535 : OrderId) ≠ 0
    ∧ (∀ out w q, Action.pulse 3 65535 0 = .pulse out w q → 1 ≤ w ∧ w ≤ 65535 ∧ q ≤ 65535) :=
  ⟨le_refl _, le_refl _, by decide, by intro o w q h; cases h; decide⟩

end Sys2Proof.Tests
end

section
/-! SUPPORT. Plan records (Tables 4-3 and 12-6): what each reader of a field takes, which records pass, and the places of the stored record. -/

namespace Sys2Proof.Machine

/-! ## Bytes at offsets -/

theorem byteAt_append_left {a b : List Byte} {i : Nat} (h : i < a.length) : byteAt (a ++ b) i = byteAt a i := by
  simp [byteAt, List.getElem?_append_left h]

theorem byteAt_append_right (a b : List Byte) (i : Nat) : byteAt (a ++ b) (a.length + i) = byteAt b i := by
  simp [byteAt, List.getElem?_append_right]

theorem byteAt_drop (r : List Byte) (n i : Nat) : byteAt (r.drop n) i = byteAt r (n + i) := by
  simp [byteAt]

theorem byteAt_lt (r : List Byte) (i : Nat) : byteAt r i < 256 := (r.getD i 0).isLt

theorem numAt_two (r : List Byte) (i : Nat) : numAt r i 2 = byteAt r i + 256 * byteAt r (i + 1) := by
  rw [← byteAt_drop r i 1, ← Nat.add_zero i, ← byteAt_drop r i 0, Nat.add_zero, numAt]
  rcases r.drop i with _ | ⟨b, _ | ⟨c, bs⟩⟩ <;> simp [byteAt, ofLeBytes]

theorem numAt_two_lt (r : List Byte) (i : Nat) : numAt r i 2 < 65536 := by
  have hlow := byteAt_lt r i
  have hhigh := byteAt_lt r (i + 1)
  rw [numAt_two]
  omega

/-! ## Codes read -/

theorem roleOf_eq_some_iff {v : Nat} {role : Role} : roleOf v = some role ↔ v = codeRole role := by
  unfold roleOf
  split <;> cases role <;> simp_all [codeRole]

theorem roleOf_eq_none_iff {v : Nat} : roleOf v = none ↔ 2 < v := by
  unfold roleOf
  split <;> simp_all
  omega

theorem directionOf_eq_some_iff {v : Nat} {d : Direction} : directionOf v = some d ↔ v = codeDirection d := by
  unfold directionOf
  split <;> cases d <;> simp_all [codeDirection]

theorem directionOf_eq_none_iff {v : Nat} : directionOf v = none ↔ 2 < v := by
  unfold directionOf
  split <;> simp_all
  omega

theorem flagOf_eq_some_iff {v : Nat} {b : Bool} : flagOf v = some b ↔ v = codeFlag b := by
  unfold flagOf
  split <;> cases b <;> simp_all [codeFlag]

theorem flagOf_eq_none_iff {v : Nat} : flagOf v = none ↔ 1 < v := by
  unfold flagOf
  split <;> simp_all
  omega

theorem policyOf_eq_some_iff {v : Nat} {policy : MismatchPolicy} : policyOf v = some policy ↔ v = codePolicy policy := by
  unfold policyOf
  split <;> cases policy <;> simp_all [codePolicy]

theorem policyOf_eq_none_iff {v : Nat} : policyOf v = none ↔ 1 < v := by
  unfold policyOf
  split <;> simp_all
  omega

theorem linkOf_eq_some_iff {v : Nat} {l : LinkNo} : linkOf v = some l ↔ v = l.val := by
  unfold linkOf
  split
  · simp [Fin.ext_iff]
  · simp; omega

theorem linkOf_eq_none_iff {v : Nat} : linkOf v = none ↔ 5 < v := by
  unfold linkOf
  split <;> simp <;> omega

theorem dirsOf_eq_some_iff {r : List Byte} {dirs : Per6 Direction} :
    dirsOf r = some dirs ↔ ∀ l : LinkNo, byteAt r l.val = codeDirection (dirs.get l) := by
  simp only [← directionOf_eq_some_iff, Fin.forall_fin_succ]
  unfold dirsOf
  split
  next h0 h1 h2 h3 h4 h5 => cases dirs; simp [h0, h1, h2, h3, h4, h5, Per6.get]
  next h =>
    refine ⟨nofun, fun ⟨h0, h1, h2, h3, h4, h5, _⟩ => ?_⟩
    exact (h _ _ _ _ _ _ h0 h1 h2 h3 h4 h5).elim

theorem dirsOf_eq_none_iff {r : List Byte} : dirsOf r = none ↔ ∃ l : LinkNo, 2 < byteAt r l.val := by
  simp only [← directionOf_eq_none_iff, Fin.exists_fin_succ]
  unfold dirsOf
  split
  next h0 h1 h2 h3 h4 h5 => simp [h0, h1, h2, h3, h4, h5]
  next h =>
    refine iff_of_true rfl ?_
    by_contra hsome
    simp only [not_or, Option.ne_none_iff_exists'] at hsome
    obtain ⟨⟨_, h0⟩, ⟨_, h1⟩, ⟨_, h2⟩, ⟨_, h3⟩, ⟨_, h4⟩, ⟨_, h5⟩, _⟩ := hsome
    exact h _ _ _ _ _ _ h0 h1 h2 h3 h4 h5

theorem linksOf_eq_some_iff {bs : List Byte} {ls : List LinkNo} : linksOf bs = some ls ↔ bs.map BitVec.toNat = ls.map Fin.val := by
  induction bs generalizing ls with
  | nil => cases ls <;> simp [linksOf]
  | cons b bs ih =>
    cases ls with
    | nil => simp only [linksOf]; split <;> simp
    | cons l ls =>
      simp only [linksOf, List.map_cons, List.cons.injEq, ← ih, ← linkOf_eq_some_iff]
      split <;> simp_all

theorem linksOf_eq_none_iff {bs : List Byte} : linksOf bs = none ↔ ∃ b ∈ bs, 5 < b.toNat := by
  induction bs with
  | nil => simp [linksOf]
  | cons b bs ih =>
    rw [List.exists_mem_cons_iff, ← ih, ← linkOf_eq_none_iff, linksOf]
    cases linkOf b.toNat <;> cases linksOf bs <;> simp

/-- The candidate list is the links that the places in use name, checked against the role and the directions (R62). -/
theorem candsOf_eq_some_iff {role : Role} {dirs : Per6 Direction} {count : Nat} {places : List Byte} {ls : List LinkNo} :
    candsOf role dirs count places = some ls ↔ count ≤ 3 ∧ (places.take count).map BitVec.toNat = ls.map Fin.val
      ∧ ls.Nodup ∧ (∀ l ∈ ls, dirs.get l = .receive) ∧ (role = .master ↔ ls = []) := by
  rw [← linksOf_eq_some_iff, candsOf]
  by_cases hcount : 3 < count
  · simp [hcount, show ¬count ≤ 3 by omega]
  · have hle : count ≤ 3 := by omega
    cases linksOf (places.take count) with
    | none => simp
    | some ms =>
      simp only [hcount, hle, if_false, true_and, Option.ite_none_right_eq_some, Option.some.injEq]
      constructor
      · rintro ⟨h, rfl⟩; exact ⟨rfl, h⟩
      · rintro ⟨rfl, h⟩; exact ⟨h, rfl⟩

/-! ## The record of a plan -/

/-- The bytes of a record hold the fields of a plan, by the places of Table 12-6 and the codes of Table 12-1. -/
structure RecordHolds (r : List Byte) (p : Plan) : Prop where
  role : byteAt r 0 = codeRole p.role
  dirs : ∀ l : LinkNo, byteAt r (1 + l.val) = codeDirection (p.dirs.get l)
  count : byteAt r 7 = p.cands.length
  cands : ((r.drop 8).take (byteAt r 7)).map BitVec.toNat = p.cands.map Fin.val
  revertive : byteAt r 11 = codeFlag p.revertive
  worst : p.worst = byteAt r 12
  nominal : p.nominal = numAt r 13 2
  tolerance : p.tolerance = byteAt r 15
  validity : p.validity = byteAt r 16
  grace : p.grace = byteAt r 17
  sps : p.sps = numAt r 18 2
  policy : byteAt r 20 = codePolicy p.policy
  limit : p.limit = numAt r 21 2

/-- The fields of a plan stand in the ranges of Table 4-3 and R62. -/
structure PlanInRange (p : Plan) : Prop where
  count : p.cands.length ≤ 3
  nodup : p.cands.Nodup
  receive : ∀ l ∈ p.cands, p.dirs.get l = .receive
  master : p.role = .master ↔ p.cands = []
  worst : 1 ≤ p.worst ∧ p.worst ≤ 4
  nominal : 16 ≤ p.nominal ∧ p.nominal ≤ 1023
  tolerance : p.tolerance ≤ 63
  validity : 1 ≤ p.validity ∧ p.validity < 256
  grace : 1 ≤ p.grace ∧ p.grace ≤ 15
  sps : 64 ≤ p.sps ∧ p.sps ≤ 8192
  limit : p.limit < 65536

theorem length_places {r : List Byte} {n : Nat} (hr : r.length = 23) (hn : n ≤ 3) : ((r.drop 8).take n).length = n := by
  simp [hr]; omega

theorem take_take_places (r : List Byte) {n : Nat} (hn : n ≤ 3) : ((r.drop 8).take 3).take n = (r.drop 8).take n := by
  rw [List.take_take, Nat.min_eq_left hn]

/-- A plan record passes with the plan whose fields it holds, in range (R61, R62). -/
theorem planOfBytes_eq_ok_iff {r : List Byte} {p : Plan} (hr : r.length = 23) :
    planOfBytes r = .ok p ↔ RecordHolds r p ∧ PlanInRange p := by
  constructor
  · fun_cases planOfBytes r
    case case12 role hrole dirs hdirs cands hcands revertive hrev hworst hnominal htol hvalid hgrace hsps policy hpolicy =>
      rintro ⟨⟩
      obtain ⟨hle, hmap, hnodup, hreceive, hmaster⟩ := candsOf_eq_some_iff.mp hcands
      rw [take_take_places r hle] at hmap
      have hcount : byteAt r 7 = cands.length := by
        simpa only [List.length_map, length_places hr hle] using congrArg List.length hmap
      have hdirs' := dirsOf_eq_some_iff.mp hdirs
      simp only [byteAt_drop] at hdirs'
      exact ⟨⟨roleOf_eq_some_iff.mp hrole, hdirs', hcount, hmap, flagOf_eq_some_iff.mp hrev, rfl, rfl, rfl, rfl, rfl, rfl,
          policyOf_eq_some_iff.mp hpolicy, rfl⟩,
        ⟨hcount ▸ hle, hnodup, hreceive, hmaster, not_not.mp hworst, not_not.mp hnominal, not_not.mp htol,
          ⟨not_not.mp hvalid, byteAt_lt r 16⟩, not_not.mp hgrace, not_not.mp hsps, numAt_two_lt r 21⟩⟩
    all_goals nofun
  · rintro ⟨holds, range⟩
    have hle : byteAt r 7 ≤ 3 := holds.count ▸ range.count
    have hrole := roleOf_eq_some_iff.mpr holds.role
    have hdirs : dirsOf (r.drop 1) = some p.dirs := dirsOf_eq_some_iff.mpr fun l => (byteAt_drop r 1 l).trans (holds.dirs l)
    have hcands : candsOf p.role p.dirs (byteAt r 7) ((r.drop 8).take 3) = some p.cands :=
      candsOf_eq_some_iff.mpr ⟨hle, (take_take_places r hle).symm ▸ holds.cands, range.nodup, range.receive, range.master⟩
    have hrev := flagOf_eq_some_iff.mpr holds.revertive
    have hpolicy := policyOf_eq_some_iff.mpr holds.policy
    simp [planOfBytes, hrole, hdirs, hcands, hrev, hpolicy, ← holds.worst, ← holds.nominal, ← holds.tolerance, ← holds.validity,
      ← holds.grace, ← holds.sps, ← holds.limit, range.worst, range.nominal, range.tolerance, range.validity, range.grace, range.sps,
      -List.drop_one]

/-! ## The first failing field -/

/-- Every field before one passes. -/
def PassesBelow (r : List Byte) (n : Nat) : Prop := ∀ m < n, PlanFieldPasses r m

/-- What a validation's outcome says: every field passes, or the number is that of the first that fails. -/
def OutcomeNamesFirst (r : List Byte) : Except Nat Plan → Prop
  | .ok _ => ∀ n, PlanFieldPasses r n
  | .error n => ¬PlanFieldPasses r n ∧ PassesBelow r n

theorem passesBelow_one (r : List Byte) : PassesBelow r 1 := fun m hm => by
  obtain rfl : m = 0 := by omega
  trivial

theorem PassesBelow.succ {r : List Byte} {n : Nat} (below : PassesBelow r n) (h : PlanFieldPasses r n) : PassesBelow r (n + 1) :=
  fun m hm => (Nat.lt_succ_iff_lt_or_eq.mp hm).elim (below m) (fun e => e ▸ h)

theorem PassesBelow.all {r : List Byte} (below : PassesBelow r 12) (n : Nat) : PlanFieldPasses r n := by
  by_cases hn : n < 12
  · exact below n hn
  · obtain ⟨k, rfl⟩ := Nat.exists_eq_add_of_le (Nat.le_of_not_lt hn)
    rw [Nat.add_comm]; trivial

/-- A field whose reader answered a value has passed. -/
theorem PassesBelow.read {r : List Byte} {n : Nat} {α : Type} {o : Option α} {a : α} (below : PassesBelow r n)
    (hnone : o = none ↔ ¬PlanFieldPasses r n) (h : o = some a) : PassesBelow r (n + 1) :=
  below.succ (not_not.mp fun hn => by simp [hnone.mpr hn] at h)

/-- A field checked by its range alone. -/
theorem outcomeNamesFirst_guard {r : List Byte} {n : Nat} {x : Except Nat Plan} {c : Prop} [Decidable c] (below : PassesBelow r n)
    (hc : c ↔ PlanFieldPasses r n) (next : PassesBelow r (n + 1) → OutcomeNamesFirst r x) :
    OutcomeNamesFirst r (if ¬c then .error n else x) := by
  split
  next h => exact ⟨hc.not.mp h, below⟩
  next h => exact next (below.succ (hc.mp (not_not.mp h)))

theorem roleOf_none_iff_fails (r : List Byte) : roleOf (byteAt r 0) = none ↔ ¬PlanFieldPasses r 1 :=
  roleOf_eq_none_iff.trans not_le.symm

theorem dirsOf_none_iff_fails (r : List Byte) : dirsOf (r.drop 1) = none ↔ ¬PlanFieldPasses r 2 := by
  simp [dirsOf_eq_none_iff, PlanFieldPasses, byteAt_drop, Fin.exists_iff, -List.drop_one]

theorem flagOf_none_iff_fails (r : List Byte) : flagOf (byteAt r 11) = none ↔ ¬PlanFieldPasses r 4 :=
  flagOf_eq_none_iff.trans not_le.symm

theorem policyOf_none_iff_fails (r : List Byte) : policyOf (byteAt r 20) = none ↔ ¬PlanFieldPasses r 11 :=
  policyOf_eq_none_iff.trans not_le.symm

theorem codeRole_eq_zero_iff {role : Role} : codeRole role = 0 ↔ role = .master := by cases role <;> simp [codeRole]

theorem codeDirection_eq_two_iff {d : Direction} : codeDirection d = 2 ↔ d = .receive := by cases d <;> simp [codeDirection]

/-- Bytes that name links pass field 3's checks on directions, on repeats and against the role exactly when the links do. -/
theorem candidate_checks_iff {r : List Byte} {role : Role} {dirs : Per6 Direction} {bs : List Byte} {ls : List LinkNo}
    (hrole : byteAt r 0 = codeRole role) (hdirs : ∀ l : LinkNo, byteAt r (1 + l.val) = codeDirection (dirs.get l))
    (hmap : bs.map BitVec.toNat = ls.map Fin.val) :
    (ls.Nodup ∧ (∀ l ∈ ls, dirs.get l = .receive) ∧ (role = .master ↔ ls = [])) ↔
      (∀ b ∈ bs, b.toNat ≤ 5 ∧ byteAt r (1 + b.toNat) = 2) ∧ bs.Nodup ∧ (byteAt r 0 = 0 ↔ bs.length = 0) := by
  have hnodup : bs.Nodup ↔ ls.Nodup := by
    rw [← List.nodup_map_iff BitVec.toNat_injective, hmap, List.nodup_map_iff Fin.val_injective]
  have hreceive : (∀ b ∈ bs, b.toNat ≤ 5 ∧ byteAt r (1 + b.toNat) = 2) ↔ ∀ l ∈ ls, dirs.get l = .receive := by
    rw [← List.forall_mem_map (P := fun v => v ≤ 5 ∧ byteAt r (1 + v) = 2), hmap, List.forall_mem_map]
    simp [hdirs, codeDirection_eq_two_iff, Fin.is_le]
  have hlength : bs.length = ls.length := by simpa using congrArg List.length hmap
  rw [hreceive, hnodup, hrole, codeRole_eq_zero_iff, hlength, List.length_eq_zero_iff]
  tauto

theorem candsOf_none_iff_fails {r : List Byte} {role : Role} {dirs : Per6 Direction} (hr : r.length = 23)
    (hrole : roleOf (byteAt r 0) = some role) (hdirs : dirsOf (r.drop 1) = some dirs) :
    candsOf role dirs (byteAt r 7) ((r.drop 8).take 3) = none ↔ ¬PlanFieldPasses r 3 := by
  have hdirs' := dirsOf_eq_some_iff.mp hdirs
  simp only [byteAt_drop] at hdirs'
  have checks {ls : List LinkNo} := candidate_checks_iff (ls := ls) (bs := (r.drop 8).take (byteAt r 7)) (roleOf_eq_some_iff.mp hrole) hdirs'
  rw [Option.eq_none_iff_forall_ne_some, ← not_exists, not_iff_not]
  constructor
  · rintro ⟨ls, hls⟩
    obtain ⟨hle, hmap, hchecks⟩ := candsOf_eq_some_iff.mp hls
    rw [take_take_places r hle] at hmap
    exact ⟨hle, by simpa only [length_places hr hle] using (checks hmap).mp hchecks⟩
  · rintro ⟨hle, hpass⟩
    cases hls : linksOf ((r.drop 8).take (byteAt r 7)) with
    | none =>
      obtain ⟨b, hb, hlarge⟩ := linksOf_eq_none_iff.mp hls
      exact absurd (hpass.1 b hb).1 (Nat.not_le.mpr hlarge)
    | some ls =>
      have hmap := linksOf_eq_some_iff.mp hls
      refine ⟨ls, candsOf_eq_some_iff.mpr ⟨hle, by rwa [take_take_places r hle], (checks hmap).mpr ?_⟩⟩
      rwa [length_places hr hle]

theorem planOfBytes_names_first {r : List Byte} (hr : r.length = 23) : OutcomeNamesFirst r (planOfBytes r) := by
  unfold planOfBytes
  have below1 := passesBelow_one r
  cases hrole : roleOf (byteAt r 0) with
  | none => exact ⟨(roleOf_none_iff_fails r).mp hrole, below1⟩
  | some role =>
  dsimp only
  have below2 := below1.read (roleOf_none_iff_fails r) hrole
  cases hdirs : dirsOf (r.drop 1) with
  | none => exact ⟨(dirsOf_none_iff_fails r).mp hdirs, below2⟩
  | some dirs =>
  dsimp only
  have below3 := below2.read (dirsOf_none_iff_fails r) hdirs
  have hfield3 := candsOf_none_iff_fails hr hrole hdirs
  cases hcands : candsOf role dirs (byteAt r 7) ((r.drop 8).take 3) with
  | none => exact ⟨hfield3.mp hcands, below3⟩
  | some cands =>
  dsimp only
  have below4 := below3.read hfield3 hcands
  cases hrev : flagOf (byteAt r 11) with
  | none => exact ⟨(flagOf_none_iff_fails r).mp hrev, below4⟩
  | some revertive =>
  dsimp only
  have below5 := below4.read (flagOf_none_iff_fails r) hrev
  refine outcomeNamesFirst_guard below5 Iff.rfl fun below6 => ?_
  refine outcomeNamesFirst_guard below6 Iff.rfl fun below7 => ?_
  refine outcomeNamesFirst_guard below7 Iff.rfl fun below8 => ?_
  refine outcomeNamesFirst_guard below8 Iff.rfl fun below9 => ?_
  refine outcomeNamesFirst_guard below9 Iff.rfl fun below10 => ?_
  refine outcomeNamesFirst_guard below10 Iff.rfl fun below11 => ?_
  cases hpolicy : policyOf (byteAt r 20) with
  | none => exact ⟨(policyOf_none_iff_fails r).mp hpolicy, below11⟩
  | some policy => exact (below11.read (policyOf_none_iff_fails r) hpolicy).all

/-- One field at most is the first that fails. -/
theorem firstFailing_unique {r : List Byte} {m n : Nat} (hm : ¬PlanFieldPasses r m ∧ PassesBelow r m)
    (hn : ¬PlanFieldPasses r n ∧ PassesBelow r n) : m = n :=
  Nat.le_antisymm (Nat.le_of_not_lt fun h => hn.1 (hm.2 n h)) (Nat.le_of_not_lt fun h => hm.1 (hn.2 m h))

theorem planOfBytes_ok_iff_all_pass {r : List Byte} (hr : r.length = 23) : (∃ p, planOfBytes r = .ok p) ↔ ∀ n, PlanFieldPasses r n := by
  have h := planOfBytes_names_first hr
  cases hout : planOfBytes r with
  | ok p => rw [hout] at h; exact iff_of_true ⟨p, rfl⟩ h
  | error m => rw [hout] at h; exact iff_of_false nofun fun hall => h.1 (hall m)

theorem planOfBytes_error_iff_first {r : List Byte} (hr : r.length = 23) (n : Nat) :
    planOfBytes r = .error n ↔ ¬PlanFieldPasses r n ∧ ∀ m < n, PlanFieldPasses r m := by
  have h := planOfBytes_names_first hr
  cases hout : planOfBytes r with
  | ok p => rw [hout] at h; exact iff_of_false nofun fun hn => hn.1 (h n)
  | error m =>
    rw [hout] at h
    exact ⟨fun e => Except.error.inj e ▸ h, fun hn => congrArg _ (firstFailing_unique h hn)⟩

/-! ## The stored record (Table 12-6) -/

/-- Fields 1 and 2 and the number of candidates: 8 bytes. -/
def planHead (p : Plan) : List Byte :=
  u8 (codeRole p.role) ++ p.dirs.toList.flatMap (fun d => u8 (codeDirection d)) ++ u8 p.cands.length

/-- The places of the candidates: 3 bytes. -/
def planPlaces (p : Plan) : List Byte := p.cands.map (fun l => BitVec.ofNat 8 l.val) ++ List.replicate (3 - p.cands.length) 0

/-- Fields 4 to 12: 12 bytes. -/
def planTail (p : Plan) : List Byte :=
  u8 (codeFlag p.revertive) ++ u8 p.worst ++ u16 p.nominal ++ u8 p.tolerance ++ u8 p.validity ++ u8 p.grace ++ u16 p.sps
    ++ u8 (codePolicy p.policy) ++ u16 p.limit

theorem planBytes_eq (p : Plan) : planBytes p = planHead p ++ (planPlaces p ++ planTail p) := by
  simp [planBytes, planHead, planPlaces, planTail]

theorem length_planHead (p : Plan) : (planHead p).length = 8 := rfl

theorem length_planTail (p : Plan) : (planTail p).length = 12 := rfl

theorem length_planPlaces {p : Plan} (h : p.cands.length ≤ 3) : (planPlaces p).length = 3 := by
  simp [planPlaces]; omega

theorem length_planBytes {p : Plan} (h : p.cands.length ≤ 3) : (planBytes p).length = 23 := by
  simp [planBytes_eq, length_planHead, length_planTail, length_planPlaces h]

theorem byteAt_planBytes_head (p : Plan) {i : Nat} (hi : i < 8) : byteAt (planBytes p) i = byteAt (planHead p) i := by
  rw [planBytes_eq, byteAt_append_left (by rwa [length_planHead])]

theorem byteAt_planBytes_tail {p : Plan} (h : p.cands.length ≤ 3) (i : Nat) : byteAt (planBytes p) (11 + i) = byteAt (planTail p) i := by
  have hlen : (planHead p ++ planPlaces p).length = 11 := by simp [length_planHead, length_planPlaces h]
  rw [planBytes_eq, ← List.append_assoc, ← hlen, byteAt_append_right]

theorem numAt_planBytes_tail {p : Plan} (h : p.cands.length ≤ 3) (i : Nat) : numAt (planBytes p) (11 + i) 2 = numAt (planTail p) i 2 := by
  rw [numAt_two, numAt_two, byteAt_planBytes_tail h, Nat.add_assoc, byteAt_planBytes_tail h]

theorem places_of_planBytes (p : Plan) : (((planBytes p).drop 8).take p.cands.length).map BitVec.toNat = p.cands.map Fin.val := by
  have hdrop : (planBytes p).drop 8 = planPlaces p ++ planTail p := by
    rw [planBytes_eq, ← length_planHead p, List.drop_left]
  have hbyte (l : LinkNo) : (BitVec.ofNat 8 l.val).toNat = l.val := by simp; omega
  rw [hdrop, planPlaces, List.append_assoc, ← List.length_map (as := p.cands) (fun l => BitVec.ofNat 8 l.val), List.take_left, List.map_map]
  exact List.map_congr_left fun l _ => hbyte l

theorem codeRole_lt (role : Role) : codeRole role < 256 := by cases role <;> decide
theorem codeDirection_lt (d : Direction) : codeDirection d < 256 := by cases d <;> decide
theorem codeFlag_lt (b : Bool) : codeFlag b < 256 := by cases b <;> decide
theorem codePolicy_lt (policy : MismatchPolicy) : codePolicy policy < 256 := by cases policy <;> decide

theorem toNat_byte {v : Nat} (h : v < 256) : (BitVec.ofNat 8 v).toNat = v := Nat.mod_eq_of_lt h

theorem toNat_two_bytes {v : Nat} (h : v < 65536) : (BitVec.ofNat 8 v).toNat + 256 * (BitVec.ofNat 8 (v / 256)).toNat = v := by
  simp only [BitVec.toNat_ofNat]; omega

theorem byteAt_planHead_direction (p : Plan) (l : LinkNo) : byteAt (planHead p) (1 + l.val) = codeDirection (p.dirs.get l) := by
  fin_cases l <;> exact toNat_byte (codeDirection_lt _)

/-- A plan in range is stored in a record that holds it. -/
theorem recordHolds_planBytes {p : Plan} (range : PlanInRange p) : RecordHolds (planBytes p) p := by
  have hlen := range.count
  have head {i : Nat} (hi : i < 8) := byteAt_planBytes_head p hi
  have tail := byteAt_planBytes_tail hlen
  have tail2 := numAt_planBytes_tail hlen
  have hcount : byteAt (planBytes p) 7 = p.cands.length := (head (by decide)).trans (toNat_byte (by omega))
  exact {
    role := (head (by decide)).trans (toNat_byte (codeRole_lt _))
    dirs := fun l => (head (by omega)).trans (byteAt_planHead_direction p l)
    count := hcount
    cands := hcount ▸ places_of_planBytes p
    revertive := (tail 0).trans (toNat_byte (codeFlag_lt _))
    worst := ((tail 1).trans (toNat_byte (by have := range.worst; omega))).symm
    nominal := ((tail2 2).trans ((numAt_two _ 2).trans (toNat_two_bytes (by have := range.nominal; omega)))).symm
    tolerance := ((tail 4).trans (toNat_byte (by have := range.tolerance; omega))).symm
    validity := ((tail 5).trans (toNat_byte range.validity.2)).symm
    grace := ((tail 6).trans (toNat_byte (by have := range.grace; omega))).symm
    sps := ((tail2 7).trans ((numAt_two _ 7).trans (toNat_two_bytes (by have := range.sps; omega)))).symm
    policy := (tail 9).trans (toNat_byte (codePolicy_lt _))
    limit := ((tail2 10).trans ((numAt_two _ 10).trans (toNat_two_bytes range.limit))).symm }

theorem planBytes_reads_back {r : List Byte} {p : Plan} (hr : r.length = 23) (h : planOfBytes r = .ok p) :
    (planBytes p).length = 23 ∧ planOfBytes (planBytes p) = .ok p := by
  obtain ⟨-, range⟩ := (planOfBytes_eq_ok_iff hr).mp h
  have hlen := length_planBytes range.count
  exact ⟨hlen, (planOfBytes_eq_ok_iff hlen).mpr ⟨recordHolds_planBytes range, range⟩⟩

/-- Settles O17: the outcome by one walk over the fields in order, the record's fields and its read-back by `RecordHolds`. -/
theorem planValidationNamesTheFirstFailingField : Obligations.PlanValidationNamesTheFirstFailingField := by
  refine ⟨fun r hr => ⟨planOfBytes_ok_iff_all_pass hr, planOfBytes_error_iff_first hr⟩, fun r p hr h => planBytes_reads_back hr h,
    fun r p hr h => ?_⟩
  obtain ⟨holds, -⟩ := (planOfBytes_eq_ok_iff hr).mp h
  have hrole : codeRole p.role = match p.role with | .master => 0 | .backup => 1 | .follower => 2 := by cases p.role <;> rfl
  have hdir (l : LinkNo) : codeDirection (p.dirs.get l) = match p.dirs.get l with | .off => 0 | .send => 1 | .receive => 2 := by
    cases p.dirs.get l <;> rfl
  have hpolicy : codePolicy p.policy = match p.policy with | .report => 0 | .resync => 1 := by cases p.policy <;> rfl
  exact ⟨holds.role.trans hrole, fun l => (holds.dirs l).trans (hdir l), holds.count ▸ holds.cands.symm, holds.revertive, holds.worst,
    holds.nominal.trans (numAt_two r 13), holds.tolerance, holds.validity, holds.grace, holds.sps.trans (numAt_two r 18),
    holds.policy.trans hpolicy, holds.limit.trans (numAt_two r 21)⟩

end Sys2Proof.Machine
end

section
/-! SUPPORT. Source selection (R66, R69, R70): what the usable-source test asks, and the selection that a re-evaluation leaves. -/

namespace Sys2Proof.Machine

@[simp] theorem readQuality_none : readQuality none = (4, 14) := rfl
@[simp] theorem readQuality_some (q : Quality) : readQuality (some q) = (q.grade, q.hops) := rfl

/-- The usable-source test, on the grade and hops as the selection unit reads them (R34, R66). -/
theorem usable_iff (p : Plan) (s : State) (l : LinkNo) :
    usable p s l = true ↔ l ∈ p.cands ∧ (link l s).dir = .receive
      ∧ ((link l s).qual.state = .valid ∨ ((link l s).qual.state = .suspect ∧ s.sel.source = some l))
      ∧ (readQuality (latestQuality (link l s).rx)).1 ≤ p.worst ∧ (readQuality (latestQuality (link l s).rx)).2 < 15 := by
  simp [usable, and_assoc]

theorem choose_of_revertive {p : Plan} (h : p.revertive = true) (s : State) : choose p s = p.cands.find? (usable p s) := by
  simp [choose, h]

theorem choose_of_usable_source {p : Plan} {s : State} {l : LinkNo} (h : p.revertive = false) (hsource : s.sel.source = some l)
    (husable : usable p s l = true) : choose p s = some l := by
  simp [choose, h, hsource, husable]

theorem choose_of_no_usable_source {p : Plan} {s : State} (h : p.revertive = false)
    (hlost : ∀ l, s.sel.source = some l → usable p s l = false) : choose p s = p.cands.find? (usable p s) := by
  cases hsource : s.sel.source with
  | none => simp [choose, h, hsource]
  | some l => simp [choose, h, hsource, hlost l hsource]

@[simp] theorem select_source (p : Plan) (new : Option LinkNo) (s : State) : (select p new s).sel.source = new := rfl

/-- Whether or not the outcome is a change, a re-evaluation leaves the chosen source selected (R68, R72). -/
theorem reevaluate_source {p : Plan} {s : State} (h : activePlan s = some p) : (reevaluate s).sel.source = choose p s := by
  by_cases hsame : choose p s = s.sel.source
  · simp [reevaluate, h, hsame]
  · simp [reevaluate, h, hsame]

/-- Settles O48: each clause is the usable-source test or one branch of `choose`. -/
theorem selectionFollowsThePlan : Obligations.SelectionFollowsThePlan := by
  intro p s hplan
  rw [reevaluate_source hplan]
  refine ⟨fun l => ?_, fun h l hsource husable => choose_of_usable_source h hsource husable,
    fun h hlost => choose_of_no_usable_source h hlost, fun h => choose_of_revertive h s⟩
  rw [usable_iff]
  cases latestQuality (link l s).rx with
  | none => simp
  | some q => simp

end Sys2Proof.Machine
end

section
/-! SUPPORT. The fallback list (R77, R147): which payloads name plans, what FALLBACK_SET answers for each list, and the whole next state of a taken request. -/

namespace Sys2Proof.Machine

/-! ## Requests taken -/

/-- A taken request of a defined kind whose length the kind does not allow is answered BAD_LENGTH, and nothing else changes (R135, R140). -/
theorem take_badLength {c : Instr} {lengths : List Nat} {body : List Byte → State → Answer × State} {tag kind : Byte} {payload : List Byte}
    {s : State} (h : TakesRequest tag kind payload s) (hc : requestCommand kind = c) (hk : responseKind kind = kind + 0x80)
    (hl : payload.length ∉ lengths) : take c (withLength lengths body) s = .next (answerWith tag kind .badLength [] s) := by
  have hw : withLength lengths body ⟨tag, kind, payload⟩ (dequeue s) = (refuse .badLength, dequeue s) := by simp [withLength, hl]
  rw [take_answers h hc hw rfl, hk]
  rfl

/-! ## Plan indices read -/

theorem planOf_eq_none_iff {v : Nat} : planOf v = none ↔ 3 < v := by
  unfold planOf
  split <;> simp <;> omega

/-- The byte of a plan index reads back as that index. -/
theorem planOf_byte (n : PlanNo) : planOf (BitVec.ofNat 8 n.val).toNat = some n := by
  rw [toNat_byte (by omega), planOf, dif_pos n.isLt]

theorem plansOf_eq_none_iff {bs : List Byte} : plansOf bs = none ↔ ∃ b ∈ bs, 3 < b.toNat := by
  induction bs with
  | nil => simp [plansOf]
  | cons b bs ih =>
    rw [List.exists_mem_cons_iff, ← ih, ← planOf_eq_none_iff, plansOf]
    cases planOf b.toNat <;> cases plansOf bs <;> simp

/-- The bytes of a list of plan indices read back as that list. -/
theorem plansOf_bytes (l : List PlanNo) : plansOf (l.map fun n => BitVec.ofNat 8 n.val) = some l := by
  induction l with
  | nil => rfl
  | cons n l ih => rw [List.map_cons, plansOf, planOf_byte, ih]

/-! ## FALLBACK_SET's checks and effect -/

theorem fallbackSet_of_index_out_of_range {p : List Byte} (s : State) (h : ∃ b ∈ p, 3 < b.toNat) : fallbackSet p s = no .badValue s := by
  rw [fallbackSet, plansOf_eq_none_iff.mpr h]

theorem fallbackSet_of_repeat_or_active {l : List PlanNo} {s : State} (h : ¬l.Nodup ∨ ∃ n ∈ l, s.plans.active = some n) :
    fallbackSet (l.map fun n => BitVec.ofNat 8 n.val) s = no .badValue s := by
  simp only [fallbackSet, plansOf_bytes]
  split
  next => rfl
  next hnodup => rw [if_pos (h.resolve_left hnodup)]

theorem fallbackSet_of_passes {l : List PlanNo} {s : State} (hnodup : l.Nodup) (hactive : ∀ n ∈ l, s.plans.active ≠ some n) :
    fallbackSet (l.map fun n => BitVec.ofNat 8 n.val) s =
      ok (fallbackFields l) { s with plans := { s.plans with fallback := l } } := by
  have hnone : ¬∃ n ∈ l, s.plans.active = some n := fun ⟨n, hn, ha⟩ => hactive n hn ha
  simp only [fallbackSet, plansOf_bytes]
  rw [if_neg (not_not.mpr hnodup), if_neg hnone]

/-! ## FALLBACK_SET and FALLBACK_READ taken -/

theorem exec_fallbackSet (s : State) : exec .fallbackSet s = take .fallbackSet (withLength [0, 1, 2, 3] fallbackSet) s := rfl

theorem exec_fallbackRead (s : State) :
    exec .fallbackRead s = take .fallbackRead (withLength [0] fun _ s => ok (fallbackFields s.plans.fallback) s) s := rfl

theorem mem_fallbackSet_lengths_iff {n : Nat} : n ∈ [0, 1, 2, 3] ↔ n ≤ 3 := by
  simp; omega

section
variable {tag : Byte} {payload : List Byte} {s : State}

theorem exec_fallbackSet_of_long (h : TakesRequest tag 0x06 payload s) (hlong : 3 < payload.length) :
    exec .fallbackSet s = .next (answerWith tag 0x06 .badLength [] s) := by
  rw [exec_fallbackSet]
  exact take_badLength h rfl rfl (mem_fallbackSet_lengths_iff.not.mpr (Nat.not_le.mpr hlong))

/-- A refusal by FALLBACK_SET's own checks keeps the former list, and all else (R147). -/
theorem exec_fallbackSet_of_refused (h : TakesRequest tag 0x06 payload s) (hlen : payload.length ≤ 3)
    (hno : fallbackSet payload (dequeue s) = no .badValue (dequeue s)) :
    exec .fallbackSet s = .next (answerWith tag 0x06 .badValue [] s) := by
  rw [exec_fallbackSet]
  exact take_answerWith h rfl rfl (mem_fallbackSet_lengths_iff.mpr hlen) hno rfl

theorem exec_fallbackSet_of_passes {l : List PlanNo} (h : TakesRequest tag 0x06 (l.map fun n => BitVec.ofNat 8 n.val) s) (hlen : l.length ≤ 3)
    (hnodup : l.Nodup) (hactive : ∀ n ∈ l, s.plans.active ≠ some n) :
    exec .fallbackSet s =
      .next (answerWith tag 0x06 .ok (fallbackFields l) { s with plans := { s.plans with fallback := l } }) := by
  rw [exec_fallbackSet]
  exact take_answerWith h rfl rfl (mem_fallbackSet_lengths_iff.mpr (by rwa [List.length_map]))
    (fallbackSet_of_passes (s := dequeue s) hnodup hactive) rfl

theorem exec_fallbackRead_answers (h : TakesRequest tag 0x07 [] s) :
    exec .fallbackRead s = .next (answerWith tag 0x07 .ok (fallbackFields s.plans.fallback) s) := by
  rw [exec_fallbackRead]
  exact take_answerWith (a := ⟨.ok, fallbackFields s.plans.fallback⟩) (t := dequeue s) h rfl rfl (List.mem_singleton_self 0) rfl rfl

end

/-- Settles O20: the length check, then one lemma for each outcome of FALLBACK_SET's own checks; FALLBACK_READ has no check. -/
theorem fallbackSetReplacesTheList : Obligations.FallbackSetReplacesTheList := by
  refine ⟨fun tag payload s h => ⟨exec_fallbackSet_of_long h, ?outOfRange, ?list⟩, fun tag s h => exec_fallbackRead_answers h⟩
  case outOfRange => exact fun hlen hlarge => exec_fallbackSet_of_refused h hlen (fallbackSet_of_index_out_of_range _ hlarge)
  case list =>
    rintro l hlen rfl
    refine ⟨fun hbad => ?_, exec_fallbackSet_of_passes h hlen⟩
    exact exec_fallbackSet_of_refused h (by rwa [List.length_map]) (fallbackSet_of_repeat_or_active hbad)

end Sys2Proof.Machine
end

section
/-! SUPPORT. The action schedule (R90, R91, R95): what an insertion leaves, and each outcome of a received order. -/

namespace Sys2Proof.Machine

/-! ## The place by due (R90) -/

/-- In a queue in ascending order of due an entry is put behind every due not greater than its own, and before every greater one (R90). -/
theorem insertedByDue_insertByDue {e : Entry} {q : List Entry} (h : q.Pairwise fun a b => a.due.toNat ≤ b.due.toNat) :
    InsertedByDue e q (insertByDue e q) := by
  induction q with
  | nil => exact ⟨[], [], rfl, rfl, nofun, nofun⟩
  | cons x xs ih =>
    obtain ⟨hx, hxs⟩ := List.pairwise_cons.mp h
    by_cases hle : x.due.toNat ≤ e.due.toNat
    · obtain ⟨before, after, hq, hq', hbefore, hafter⟩ := ih hxs
      refine ⟨x :: before, after, by rw [hq, List.cons_append], ?_, List.forall_mem_cons.mpr ⟨hle, hbefore⟩, hafter⟩
      rw [insertByDue, if_pos hle, hq', List.cons_append]
    · have hlt : e.due.toNat < x.due.toNat := Nat.lt_of_not_le hle
      refine ⟨[], x :: xs, rfl, ?_, nofun, List.forall_mem_cons.mpr ⟨hlt, fun y hy => hlt.trans_le (hx y hy)⟩⟩
      rw [insertByDue, if_neg hle, List.nil_append]

/-! ## The fresh action id (R91) -/

theorem idAfter_bounds (n k : Nat) : 1 ≤ idAfter n k ∧ idAfter n k ≤ 255 := by
  unfold idAfter; omega

theorem idAfter_zero {n : Nat} (h : 1 ≤ n ∧ n ≤ 255) : idAfter n 0 = n := by
  unfold idAfter; omega

theorem idAfter_injOn {n j k : Nat} (hj : j < 255) (hk : k < 255) (h : idAfter n j = idAfter n k) : j = k := by
  unfold idAfter at h; omega

theorem succId_bounds {n : Nat} (h : n ≤ 255) : 1 ≤ succId n ∧ succId n ≤ 255 := by
  unfold succId; split <;> omega

theorem succId_eq {n : Nat} (h : n ≤ 255) : succId n = if n = 255 then 1 else n + 1 := by
  unfold succId; split <;> split <;> omega

theorem idAfter_succId {n : Nat} (h : 1 ≤ n ∧ n ≤ 255) (k : Nat) : idAfter (succId n) k = idAfter n (k + 1) := by
  unfold idAfter succId; split <;> omega

/-- The search stops at the first id that no entry holds, or at its last one. -/
theorem freeId_search (q : List Entry) (fuel : Nat) {n : Nat} (h : 1 ≤ n ∧ n ≤ 255) :
    ∃ k ≤ fuel, freeId q fuel n = idAfter n k ∧ (∀ j < k, idAfter n j ∈ q.map Entry.id)
      ∧ (k < fuel → idAfter n k ∉ q.map Entry.id) := by
  induction fuel generalizing n with
  | zero => exact ⟨0, le_rfl, (idAfter_zero h).symm, nofun, nofun⟩
  | succ fuel ih =>
    by_cases hheld : n ∈ q.map Entry.id
    · obtain ⟨k, hk, hfree, hbelow, hfresh⟩ := ih (succId_bounds h.2)
      simp only [idAfter_succId h] at hfree hbelow hfresh
      refine ⟨k + 1, Nat.succ_le_succ hk, by rw [freeId, if_pos hheld, hfree], fun j hj => ?_,
        fun hlt => hfresh (Nat.lt_of_succ_lt_succ hlt)⟩
      cases j with
      | zero => rwa [idAfter_zero h]
      | succ j => exact hbelow j (Nat.lt_of_succ_lt_succ hj)
    · exact ⟨0, Nat.zero_le _, by rw [freeId, if_neg hheld, idAfter_zero h], nofun, fun _ => by rwa [idAfter_zero h]⟩

/-- Consecutive ids that are all held are no more than the entries that hold them. -/
theorem held_ids_le_length {q : List Entry} {n k : Nat} (hk : k ≤ 255) (h : ∀ j < k, idAfter n j ∈ q.map Entry.id) : k ≤ q.length := by
  have hnodup : ((List.range k).map (idAfter n)).Nodup := by
    refine List.nodup_range.map_on fun i hi j hj => ?_
    rw [List.mem_range] at hi hj
    exact idAfter_injOn (by omega) (by omega)
  have hsub : (List.range k).map (idAfter n) ⊆ q.map Entry.id := by
    simpa only [List.subset_def, List.forall_mem_map, List.mem_range] using h
  simpa only [List.length_map, List.length_range] using (hnodup.subperm hsub).length_le

/-- With fewer entries than ids the search finds the first free one (R91). -/
theorem freshId_freeId {c : Schedule} (hlen : c.queue.length < 255) (hnext : 1 ≤ c.nextId ∧ c.nextId ≤ 255) :
    FreshId c (freeId c.queue 255 c.nextId) := by
  obtain ⟨k, hk, hfree, hbelow, hfresh⟩ := freeId_search c.queue 255 hnext
  have hlt : k < 255 := (held_ids_le_length hk hbelow).trans_lt hlen
  rw [hfree]
  exact ⟨hfresh hlt, k, hlt, rfl, hbelow⟩

theorem FreshId.le {c : Schedule} {id : Nat} (h : FreshId c id) : id ≤ 255 := by
  obtain ⟨-, k, -, rfl, -⟩ := h
  exact (idAfter_bounds _ _).2

/-! ## The insertion -/

/-- An insertion into a schedule with a free slot adds one PENDING entry under a fresh id, and moves the counter on (R90, R91). -/
theorem inserted_insertAction {c : Schedule} (hinv : ScheduleInv c) (hroom : c.queue.length < 32) (a : Action) (due : Time) (origin : Origin)
    (orderId : Option OrderId) (sends : Nat) :
    Inserted { id := (insertAction a due origin orderId sends c).1, action := a, due := due, outcome := none, origin := origin,
               orderId := orderId, sends := sends, reportedIn := none }
      c (insertAction a due origin orderId sends c).2 := by
  obtain ⟨-, hsorted, -, -, -, -, -, -, hnext⟩ := hinv
  have hfresh : FreshId c (freeId c.queue 255 c.nextId) := freshId_freeId (by omega) hnext
  exact ⟨hfresh, insertedByDue_insertByDue hsorted, succId_eq hfresh.le, rfl⟩

/-! ## The checks of an order -/

theorem orderKnown_iff {o : OrderId} {c : Schedule} : orderKnown o c = true ↔ (∃ e ∈ c.queue, e.orderId = some o) ∨ o ∈ c.spent := by
  simp [orderKnown]

theorem queueFull_iff {c : Schedule} : queueFull c = true ↔ 32 ≤ c.queue.length := decide_eq_true_iff

theorem duePassed_iff {due : Time} {s : State} : duePassed due s = true ↔ due.toNat ≤ s.core.record.final.toNat := decide_eq_true_iff

/-! ## A received order (R95, R96) -/

section
variable {l : LinkNo} {o : Order} {s : State}

theorem acceptMessage_order_of_other_link (h : s.sel.source ≠ some l) : acceptMessage l (.order o) s = s := if_neg h

theorem acceptMessage_order_of_source (h : s.sel.source = some l) : acceptMessage l (.order o) s = receiveOrder l o s := if_pos h

theorem receiveOrder_of_known (h : orderKnown o.id s.sched = true) : receiveOrder l o s = s := if_pos h

theorem receiveOrder_of_late (hnew : orderKnown o.id s.sched ≠ true) (hlate : s.core.valid = true ∧ duePassed o.due s = true) :
    receiveOrder l o s = raiseFault .orderLate s := by
  rw [receiveOrder, if_neg hnew, if_pos hlate]

theorem receiveOrder_of_full (hnew : orderKnown o.id s.sched ≠ true) (htime : ¬(s.core.valid = true ∧ duePassed o.due s = true))
    (hfull : queueFull s.sched = true) : receiveOrder l o s = raiseFault .orderDropped s := by
  rw [receiveOrder, if_neg hnew, if_neg htime, if_pos hfull]

/-- An order that no check stops is one PENDING entry more, of the link it arrived on (R95 d, R96). -/
theorem receiveOrder_inserts (hinv : ScheduleInv s.sched) (hnew : orderKnown o.id s.sched ≠ true)
    (htime : ¬(s.core.valid = true ∧ duePassed o.due s = true)) (hroom : s.sched.queue.length < 32) :
    ∃ (id : Nat) (c : Schedule),
      Inserted { id := id, action := offsetAction (link l s).offset o.action, due := o.due, outcome := none, origin := .link l,
                 orderId := some o.id, sends := 3, reportedIn := none } s.sched c
        ∧ receiveOrder l o s = { s with sched := c } := by
  have hslot : queueFull s.sched ≠ true := queueFull_iff.not.mpr (Nat.not_le.mpr hroom)
  refine ⟨_, _, inserted_insertAction hinv hroom _ _ _ _ _, ?_⟩
  rw [receiveOrder, if_neg hnew, if_neg htime, if_neg hslot]

end

/-- Settles O35: one lemma for each outcome of `receiveOrder`; the offset moves a LOAD value and no other action. -/
theorem orderIsInsertedOrCounted : Obligations.OrderIsInsertedOrCounted := by
  intro l m s hinv
  refine ⟨acceptMessage_order_of_other_link, fun hsource => ?_⟩
  rw [acceptMessage_order_of_source hsource]
  refine ⟨fun hknown => receiveOrder_of_known (orderKnown_iff.mpr hknown), fun hqueue hspent => ?_⟩
  have hnew : orderKnown m.id s.sched ≠ true := fun h =>
    (orderKnown_iff.mp h).elim (fun ⟨e, he, hid⟩ => hqueue e he hid) hspent
  refine ⟨fun hvalid hdue => receiveOrder_of_late hnew ⟨hvalid, duePassed_iff.mpr hdue⟩, fun hnotLate => ?_⟩
  have htime : ¬(s.core.valid = true ∧ duePassed m.due s = true) := fun ⟨hvalid, hpassed⟩ =>
    hnotLate.elim (ne_false_of_eq_true hvalid) (duePassed_iff.mp hpassed).not_gt
  refine ⟨fun hfull => receiveOrder_of_full hnew htime (queueFull_iff.mpr hfull.ge), fun hroom => ?_⟩
  have hinserted := receiveOrder_inserts (l := l) hinv hnew htime hroom
  cases haction : m.action <;> rwa [haction] at hinserted

end Sys2Proof.Machine
end

section
/-! SUPPORT. The index that a payload's first byte names, and numbers read back from the bytes of a field (section 0.5). -/

namespace Sys2Proof.Machine

@[simp] theorem byteAt_cons_zero (b : Byte) (bs : List Byte) : byteAt (b :: bs) 0 = b.toNat := rfl

theorem planOf_eq_some_iff {v : Nat} {n : PlanNo} : planOf v = some n ↔ v = n.val := by
  unfold planOf
  split
  · simp [Fin.ext_iff]
  · simp; omega

/-! ## Numbers read back -/

/-- Little-endian bytes hold the number modulo their range. -/
theorem ofLeBytes_leBytes (n v : Nat) : ofLeBytes (leBytes n v) = v % 256 ^ n := by
  induction n generalizing v with
  | zero => rw [pow_zero, Nat.mod_one]; rfl
  | succ n ih => rw [leBytes, ofLeBytes, ih, BitVec.toNat_ofNat, pow_succ' 256 n, Nat.mod_mul]

theorem numAt_of_u16 {b : List Byte} {off v : Nat} (h : (b.drop off).take 2 = u16 v) (hv : v ≤ 65535) : numAt b off 2 = v := by
  rw [numAt, h, u16, ofLeBytes_leBytes]
  exact Nat.mod_eq_of_lt (by omega)

theorem timeAt_of_u64 {b : List Byte} {off : Nat} {v : Time} (h : (b.drop off).take 8 = u64 v) : timeAt b off = v := by
  have hv : v.toNat % 256 ^ 8 = v.toNat := Nat.mod_eq_of_lt v.isLt
  rw [timeAt, numAt, h, u64, ofLeBytes_leBytes, hv, BitVec.ofNat_toNat, BitVec.setWidth_eq]

end Sys2Proof.Machine
end

section
/-! SUPPORT. PLAN_WRITE and PLAN_CLEAR (R58, R59, R78, R144, R146): what each of their checks answers, and what a request that passes them leaves. -/

namespace Sys2Proof.Machine

variable {i : Byte} {r : List Byte} {n : PlanNo} {s : State}

/-! ## PLAN_WRITE's checks and effect -/

theorem planWrite_of_index_out_of_range (s : State) (h : 3 < i.toNat) : planWrite (i :: r) s = no .badValue s := by
  rw [planWrite, byteAt_cons_zero, planOf_eq_none_iff.mpr h]

theorem planWrite_of_active (hi : i.toNat = n.val) (h : s.plans.active = some n) : planWrite (i :: r) s = no .planActive s := by
  simp only [planWrite, byteAt_cons_zero, planOf_eq_some_iff.mpr hi]
  exact if_pos h

/-- A record that fails validation is answered with its field's number, and the state stays (R62, R144). -/
theorem planWrite_of_invalid {f : Nat} (hi : i.toNat = n.val) (hactive : s.plans.active ≠ some n) (h : planOfBytes r = .error f) :
    planWrite (i :: r) s = (⟨.planInvalid, u8 f⟩, s) := by
  simp only [planWrite, byteAt_cons_zero, planOf_eq_some_iff.mpr hi, List.drop_one, List.tail_cons, h]
  exact if_neg hactive

theorem planWrite_of_valid {p : Plan} (hi : i.toNat = n.val) (hactive : s.plans.active ≠ some n) (h : planOfBytes r = .ok p) :
    planWrite (i :: r) s = ok [] (setRecord n (some p) s) := by
  simp only [planWrite, byteAt_cons_zero, planOf_eq_some_iff.mpr hi, List.drop_one, List.tail_cons, h]
  exact if_neg hactive

/-! ## PLAN_CLEAR's checks and effect -/

theorem planClear_of_index_out_of_range (s : State) (h : 3 < i.toNat) : planClear [i] s = no .badValue s := by
  rw [planClear, byteAt_cons_zero, planOf_eq_none_iff.mpr h]

theorem planClear_of_active (hi : i.toNat = n.val) (h : s.plans.active = some n) : planClear [i] s = no .planActive s := by
  simp only [planClear, byteAt_cons_zero, planOf_eq_some_iff.mpr hi]
  exact if_pos h

theorem planClear_of_not_active (hi : i.toNat = n.val) (h : s.plans.active ≠ some n) :
    planClear [i] s =
      ok [] { s with plans := { s.plans with records := s.plans.records.set n none, fallback := s.plans.fallback.filter (fun m => m ≠ n) } } := by
  simp only [planClear, byteAt_cons_zero, planOf_eq_some_iff.mpr hi]
  exact if_neg h

/-! ## PLAN_WRITE and PLAN_CLEAR taken -/

theorem exec_planWrite (s : State) : exec .planWrite s = take .planWrite (withLength [24] planWrite) s := rfl

theorem exec_planClear (s : State) : exec .planClear s = take .planClear (withLength [1] planClear) s := rfl

/-- Settles O16: one lemma for each outcome of PLAN_WRITE's checks, in their order. -/
theorem planWriteReplacesTheRecord : Obligations.PlanWriteReplacesTheRecord := by
  intro tag i r s hr h
  have hlen : (i :: r).length ∈ [24] := List.mem_singleton.mpr (congrArg (· + 1) hr)
  simp only [exec_planWrite]
  refine ⟨fun hlarge => ?outOfRange, fun n hi => ⟨fun hactive => ?active, fun hfree => ⟨fun f hf => ?invalid, fun p hp => ?valid⟩⟩⟩
  case outOfRange => exact take_answerWith h rfl rfl hlen (planWrite_of_index_out_of_range (dequeue s) hlarge) rfl
  case active => exact take_answerWith h rfl rfl hlen (planWrite_of_active (s := dequeue s) hi hactive) rfl
  case invalid => exact take_answerWith h rfl rfl hlen (planWrite_of_invalid (s := dequeue s) hi hfree hf) rfl
  case valid => exact take_answerWith h rfl rfl hlen (planWrite_of_valid (s := dequeue s) hi hfree hp) rfl

/-- Settles O19: one lemma for each outcome of PLAN_CLEAR's checks, in their order. -/
theorem planClearEmptiesThePlan : Obligations.PlanClearEmptiesThePlan := by
  intro tag i s h
  have hlen : [i].length ∈ [1] := List.mem_singleton_self 1
  simp only [exec_planClear]
  refine ⟨fun hlarge => ?outOfRange, fun n hi => ⟨fun hactive => ?active, fun hfree => ?cleared⟩⟩
  case outOfRange => exact take_answerWith h rfl rfl hlen (planClear_of_index_out_of_range (dequeue s) hlarge) rfl
  case active => exact take_answerWith h rfl rfl hlen (planClear_of_active (s := dequeue s) hi hactive) rfl
  case cleared => exact take_answerWith h rfl rfl hlen (planClear_of_not_active (s := dequeue s) hi hfree) rfl

end Sys2Proof.Machine
end

section
/-! SUPPORT. LINK_READ (R149): what the number's check answers, and the fields of the link it names (Table 9-2). -/

namespace Sys2Proof.Machine

/-! ## LINK_READ's check and answer -/

theorem linkRead_of_number_out_of_range {i : Byte} (s : State) (h : 5 < i.toNat) : linkRead [i] s = no .badValue s := by
  rw [linkRead, byteAt_cons_zero, linkOf_eq_none_iff.mpr h]

theorem linkRead_of_link {i : Byte} {l : LinkNo} (s : State) (h : i.toNat = l.val) : linkRead [i] s = ok (linkFields l (link l s)) s := by
  rw [linkRead, byteAt_cons_zero, linkOf_eq_some_iff.mpr h]

theorem exec_linkRead (s : State) : exec .linkRead s = take .linkRead (withLength [1] linkRead) s := rfl

/-- Settles O22: the number's check, and for a link its fields, where only the two optional numbers need a case each to show their presence byte. -/
theorem linkReadReturnsTheLink : Obligations.LinkReadReturnsTheLink := by
  intro tag i s h
  have hlen : [i].length ∈ [1] := List.mem_singleton_self 1
  simp only [exec_linkRead]
  refine ⟨fun hlarge => ?outOfRange, ?inRange⟩
  case outOfRange => exact take_answerWith h rfl rfl hlen (linkRead_of_number_out_of_range (dequeue s) hlarge) rfl
  case inRange =>
    rintro l u hi rfl
    refine (take_answerWith h rfl rfl hlen (linkRead_of_link (dequeue s) hi) rfl).trans ?_
    rw [link_congr (dequeue_links s), linkFields]
    cases (link l s).qual.phase <;> cases (link l s).qual.lastInterval <;> rfl

end Sys2Proof.Machine
end

section
/-! SUPPORT. CAPTURE_READ (R119, R158): the oldest records that leave the FIFO, the answer, and a record's fields in its 16 bytes (Table 12-10). -/

namespace Sys2Proof.Machine

/-! ## The oldest records -/

/-- A list cut after as many elements as it has, up to `k`, is cut after its first `k`. -/
theorem take_drop_of_append {α : Type} {l returned held : List α} {k : Nat} (hl : l = returned ++ held)
    (hlen : returned.length = min k l.length) : l.take k = returned ∧ l.drop k = held := by
  have htake : l.take k = l.take returned.length := List.take_eq_take_iff.mpr (by omega)
  have hreturned : l.take k = returned := by rw [htake, hl, List.take_left]
  refine ⟨hreturned, List.append_cancel_left (as := returned) ?_⟩
  calc returned ++ l.drop k = l.take k ++ l.drop k := by rw [hreturned]
    _ = l := List.take_append_drop k l
    _ = returned ++ held := hl

/-! ## CAPTURE_READ taken -/

theorem captureRead_of_append {returned held : List CaptureRecord} {s : State} (p : List Byte) (hfifo : s.capture.fifo = returned ++ held)
    (hlen : returned.length = min 8 s.capture.fifo.length) :
    captureRead p s = ok (u8 returned.length ++ returned.flatMap captureBytes ++ u8 held.length ++ u16 s.capture.gap)
      { s with capture := { s.capture with fifo := held } } := by
  obtain ⟨htake, hdrop⟩ := take_drop_of_append hfifo hlen
  rw [captureRead, htake, hdrop]

theorem exec_captureRead (s : State) : exec .captureRead s = take .captureRead (withLength [0] captureRead) s := rfl

theorem exec_captureRead_of_append {tag : Byte} {returned held : List CaptureRecord} {s : State} (h : TakesRequest tag 0x12 [] s)
    (hfifo : s.capture.fifo = returned ++ held) (hlen : returned.length = min 8 s.capture.fifo.length) :
    exec .captureRead s = .next (answerWith tag 0x12 .ok
      (u8 returned.length ++ returned.flatMap captureBytes ++ u8 held.length ++ u16 s.capture.gap)
      { s with capture := { s.capture with fifo := held } }) := by
  rw [exec_captureRead]
  exact take_answerWith h rfl rfl (List.mem_singleton_self 0) (captureRead_of_append (s := dequeue s) [] hfifo hlen) rfl

/-! ## A record's fields read back (Table 12-10) -/

theorem codeEdge_lt (e : Edge) : codeEdge e < 256 := by cases e <;> decide
theorem codeCoreState_lt (st : CoreState) : codeCoreState st < 256 := by cases st <;> decide

section
variable (r : CaptureRecord)

theorem captureBytes_line : byteAt (captureBytes r) 0 = r.line.val := toNat_byte (by omega)
theorem captureBytes_edge : byteAt (captureBytes r) 1 = codeEdge r.edge := toNat_byte (codeEdge_lt _)
theorem captureBytes_time : timeAt (captureBytes r) 2 = r.time := timeAt_of_u64 rfl
theorem captureBytes_ticks (h : r.ticks ≤ 65535) : numAt (captureBytes r) 10 2 = r.ticks := numAt_of_u16 rfl h
theorem captureBytes_state : byteAt (captureBytes r) 12 = codeCoreState r.state := toNat_byte (codeCoreState_lt _)
theorem captureBytes_valid : byteAt (captureBytes r) 13 = codeFlag r.valid := toNat_byte (codeFlag_lt _)
theorem captureBytes_gap (h : r.gap ≤ 65535) : numAt (captureBytes r) 14 2 = r.gap := numAt_of_u16 rfl h

end

/-- Settles O23: the request by `exec_captureRead_of_append`, the layout of a record field by field. -/
theorem captureReadTakesTheOldestRecords : Obligations.CaptureReadTakesTheOldestRecords := by
  refine ⟨fun tag s returned held h => exec_captureRead_of_append h, ?_⟩
  rintro r b rfl
  exact ⟨rfl, captureBytes_line r, captureBytes_edge r, captureBytes_time r, captureBytes_ticks r, captureBytes_state r, captureBytes_valid r,
    captureBytes_gap r⟩

end Sys2Proof.Machine
end

section
/-! SUPPORT. ACTION_CANCEL (R104, R155): the one entry that an action id names, and what each check answers. -/

namespace Sys2Proof.Machine

/-! ## The entry that an id names -/

theorem find_id_eq_none {q : List Entry} {id : Nat} (h : ∀ e ∈ q, e.id ≠ id) : q.find? (fun e => e.id == id) = none :=
  List.find?_eq_none.mpr fun e he heq => h e he (eq_of_beq heq)

theorem find_id_of_held {before after : List Entry} {e : Entry} (h : ∀ x ∈ before ++ after, x.id ≠ e.id) :
    (before ++ e :: after).find? (fun x => x.id == e.id) = some e := by
  rw [List.find?_append, find_id_eq_none fun x hx => h x (List.mem_append_left _ hx), Option.none_or]
  exact List.find?_cons_of_pos (beq_self_eq_true _)

theorem finishEntry_of_not_held {q : List Entry} {id : Nat} (o : Ending) (h : ∀ e ∈ q, e.id ≠ id) : finishEntry id o q = q :=
  (List.map_congr_left fun e he => if_neg (h e he)).trans (List.map_id' q)

/-- Only the entry that holds the id is finished, and it keeps its place (R98 b, R104). -/
theorem finishEntry_of_held {before after : List Entry} {e : Entry} (o : Ending) (h : ∀ x ∈ before ++ after, x.id ≠ e.id) :
    finishEntry e.id o (before ++ e :: after) = before ++ { e with outcome := some o } :: after := by
  have hbefore : finishEntry e.id o before = before := finishEntry_of_not_held o fun x hx => h x (List.mem_append_left _ hx)
  have hafter : finishEntry e.id o after = after := finishEntry_of_not_held o fun x hx => h x (List.mem_append_right _ hx)
  calc finishEntry e.id o (before ++ e :: after)
      = finishEntry e.id o before ++ (if e.id = e.id then { e with outcome := some o } else e) :: finishEntry e.id o after := by
        rw [finishEntry, List.map_append, List.map_cons]; rfl
    _ = before ++ { e with outcome := some o } :: after := by rw [hbefore, hafter, if_pos rfl]

/-! ## ACTION_CANCEL's checks and effect -/

section
variable {i : Byte} {s : State} {before after : List Entry} {e : Entry}

theorem actionCancel_of_zero (s : State) (hi : i = 0) : actionCancel [i] s = no .badValue s := by rw [hi]; rfl

theorem actionCancel_of_not_held (hi : i ≠ 0) (h : ∀ e ∈ s.sched.queue, e.id ≠ i.toNat) : actionCancel [i] s = no .notFound s := by
  have hpos : i.toNat ≠ 0 := BitVec.toNat_ne.mp hi
  rw [actionCancel, byteAt_cons_zero, if_neg hpos, find_id_eq_none h]

/-- Past the first two checks the entry found alone decides between WRONG_STATE and the cancel (R104). -/
theorem actionCancel_of_find (hi : i ≠ 0) (hid : e.id = i.toNat) (hfind : s.sched.queue.find? (fun x => x.id == e.id) = some e) :
    actionCancel [i] s = if e.outcome.isSome then no .wrongState s
      else ok [] (raiseItem e .cancelled { s with sched := { s.sched with queue := finishEntry e.id .cancelled s.sched.queue } }) := by
  have hpos : i.toNat ≠ 0 := BitVec.toNat_ne.mp hi
  rw [actionCancel, byteAt_cons_zero, if_neg hpos, ← hid, hfind]

theorem actionCancel_of_finished (hi : i ≠ 0) (hqueue : s.sched.queue = before ++ e :: after) (hid : e.id = i.toNat)
    (hother : ∀ x ∈ before ++ after, x.id ≠ i.toNat) (hfinished : e.outcome.isSome) : actionCancel [i] s = no .wrongState s := by
  rw [← hid] at hother
  rw [actionCancel_of_find hi hid (hqueue ▸ find_id_of_held hother), if_pos hfinished]

theorem actionCancel_of_pending (hi : i ≠ 0) (hqueue : s.sched.queue = before ++ e :: after) (hid : e.id = i.toNat)
    (hother : ∀ x ∈ before ++ after, x.id ≠ i.toNat) (hpending : e.outcome = none) :
    actionCancel [i] s =
      ok [] (raiseItem e .cancelled { s with sched := { s.sched with queue := before ++ { e with outcome := some .cancelled } :: after } }) := by
  have hnot : ¬e.outcome.isSome := Option.not_isSome_iff_eq_none.mpr hpending
  rw [← hid] at hother
  rw [actionCancel_of_find hi hid (hqueue ▸ find_id_of_held hother), if_neg hnot, hqueue, finishEntry_of_held .cancelled hother]

end

/-! ## ACTION_CANCEL taken -/

theorem exec_actionCancel (s : State) : exec .actionCancel s = take .actionCancel (withLength [1] actionCancel) s := rfl

/-- Settles O33: one lemma for each outcome; that no other entry holds the id makes the one found the one finished. -/
theorem actionCancelFinishesTheEntry : Obligations.ActionCancelFinishesTheEntry := by
  intro tag i s h
  have hlen : [i].length ∈ [1] := List.mem_singleton_self 1
  simp only [exec_actionCancel]
  refine ⟨fun hzero => ?zero, fun hi hnone => ?notHeld, fun before e after hi hqueue hid hother =>
    ⟨fun hfinished => ?finished, fun hpending => ?pending⟩⟩
  case zero => exact take_answerWith h rfl rfl hlen (actionCancel_of_zero (dequeue s) hzero) rfl
  case notHeld => exact take_answerWith h rfl rfl hlen (actionCancel_of_not_held (s := dequeue s) hi hnone) rfl
  case finished => exact take_answerWith h rfl rfl hlen (actionCancel_of_finished (s := dequeue s) hi hqueue hid hother hfinished) rfl
  case pending => exact take_answerWith h rfl rfl hlen (actionCancel_of_pending (s := dequeue s) hi hqueue hid hother hpending) rfl

end Sys2Proof.Machine
end

section
/-! SUPPORT. What one step can do, said once: what carrying out a request makes of the state, the events of the part, and the rule by which a property is kept by every
step. -/

namespace Sys2Proof.Machine

/-! ## What a request makes of the state -/

/-- The states that carrying out a request may leave, with the checks that stand before each effect. -/
inductive RequestEffect (s : State) : State → Prop
  | none : RequestEffect s s
  | holdRestart (r : Request) : RequestEffect s (holdRestart r s)
  | planWrite (i : PlanNo) (p : Plan) (hactive : s.plans.active ≠ some i) : RequestEffect s (setRecord i (some p) s)
  | planClear (i : PlanNo) (hactive : s.plans.active ≠ some i) : RequestEffect s
      { s with plans := { s.plans with records := s.plans.records.set i none, fallback := s.plans.fallback.filter (fun j => j ≠ i) } }
  | fallbackSet (l : List PlanNo) : RequestEffect s { s with plans := { s.plans with fallback := l } }
  | linkSet (l : LinkNo) (offset holdoff : Byte) : RequestEffect s (setLink l { link l s with offset := offset, holdoff := holdoff } s)
  | timeStart (i : PlanNo) (p : Plan) (start : Option Time) (hidle : s.core.state = .idle) (hrecord : s.plans.records.get i = some p) :
      RequestEffect s (startTime i p start s)
  | timeStop (hrunning : s.core.state ≠ .idle) : RequestEffect s (stopTime s)
  | actionAdd (a : Action) (due : Time) (o : Option OrderId) (sends : Nat) (hvalid : s.core.valid = true)
      (hnew : ∀ id, o = some id → orderKnown id s.sched ≠ true) (hroom : queueFull s.sched ≠ true) :
      RequestEffect s { s with sched := (insertAction a due .channel o sends s.sched).2 }
  | actionCancel (e : Entry) : RequestEffect s
      (raiseItem e .cancelled { s with sched := { s.sched with queue := finishEntry e.id .cancelled s.sched.queue } })
  | lineSet (e : Per4 EdgeChoice) (q : Per4 Polarity) : RequestEffect s
      { s with capture := { s.capture with edges := e }, pulses := setPolarities q s.pulses }
  | captureRead : RequestEffect s { s with capture := { s.capture with fifo := s.capture.fifo.drop 8 } }
  | haltSet (new : HaltPolicy) : RequestEffect s (haltPolicy new s)
  | noticeAck (q : SeqNo) (gone left : List SentNotice) (hsplit : splitWindow q s.notices.window = some (gone, left)) : RequestEffect s
      { s with notices := acknowledged gone left s.notices, sched := gone.foldl releaseNotice s.sched }
  | noticeSet (timeout : Nat) (m : Byte) (hmask : maskAllowed m = true) : RequestEffect s
      { s with notices := { s.notices with timeout := timeout, mask := m } }

theorem requestEffect_planWrite (b : List Byte) (s : State) : RequestEffect s (planWrite b s).2 := by
  unfold planWrite
  split
  · exact .none
  · split
    · exact .none
    · rename_i hactive
      split
      · exact .none
      · exact .planWrite _ _ hactive

theorem requestEffect_planRead (b : List Byte) (s : State) : RequestEffect s (planRead b s).2 := by
  unfold planRead
  split
  · exact .none
  · split <;> exact .none

theorem requestEffect_planClear (b : List Byte) (s : State) : RequestEffect s (planClear b s).2 := by
  unfold planClear
  split
  · exact .none
  · split
    · exact .none
    · rename_i hactive
      exact .planClear _ hactive

theorem requestEffect_fallbackSet (b : List Byte) (s : State) : RequestEffect s (fallbackSet b s).2 := by
  unfold fallbackSet
  split
  · exact .none
  · split
    · exact .none
    · split
      · exact .none
      · exact .fallbackSet _

theorem requestEffect_linkSet (b : List Byte) (s : State) : RequestEffect s (linkSet b s).2 := by
  unfold linkSet
  split
  · exact .none
  · exact .linkSet _ _ _

theorem requestEffect_linkRead (b : List Byte) (s : State) : RequestEffect s (linkRead b s).2 := by
  unfold linkRead
  split <;> exact .none

theorem requestEffect_timeStart (b : List Byte) (s : State) : RequestEffect s (timeStart b s).2 := by
  unfold timeStart
  extract_lets start
  clear_value start
  split
  · exact .none
  · rename_i hidle
    split
    · exact .none
    · split
      · exact .none
      · split
        · exact .none
        · rename_i hrecord
          split
          · exact .none
          · exact .timeStart _ _ start (not_not.mp hidle) hrecord

theorem requestEffect_timeStop (b : List Byte) (s : State) : RequestEffect s (timeStop b s).2 := by
  unfold timeStop
  dsimp only [ok]
  split
  · exact .none
  · rename_i hrunning
    exact .timeStop hrunning

theorem requestEffect_actionAdd (b : List Byte) (s : State) : RequestEffect s (actionAdd b s).2 := by
  unfold actionAdd
  split
  · exact .none
  · rename_i hvalid
    split
    · exact .none
    · split
      · exact .none
      · rename_i a o _
        split
        · exact .none
        · rename_i hnew
          split
          · exact .none
          · rename_i hroom
            refine .actionAdd a _ o _ (not_not.mp hvalid) (fun id hid => ?_) hroom
            rwa [hid] at hnew

theorem requestEffect_actionCancel (b : List Byte) (s : State) : RequestEffect s (actionCancel b s).2 := by
  unfold actionCancel
  split
  · exact .none
  · split
    · exact .none
    · split
      · exact .none
      · exact .actionCancel _

theorem requestEffect_actionList (b : List Byte) (s : State) : RequestEffect s (actionList b s).2 := by
  unfold actionList
  split <;> exact .none

theorem requestEffect_lineSet (b : List Byte) (s : State) : RequestEffect s (lineSet b s).2 := by
  unfold lineSet
  split
  · exact .lineSet _ _
  · exact .none

theorem requestEffect_haltSet (b : List Byte) (s : State) : RequestEffect s (haltSet b s).2 := by
  unfold haltSet
  split
  · exact .none
  · exact .haltSet _

theorem requestEffect_noticeAck (b : List Byte) (s : State) : RequestEffect s (noticeAck b s).2 := by
  unfold noticeAck
  split
  · exact .none
  · rename_i hsplit
    exact .noticeAck _ _ _ hsplit

theorem requestEffect_noticeSet (b : List Byte) (s : State) : RequestEffect s (noticeSet b s).2 := by
  unfold noticeSet
  dsimp only
  split
  · exact .none
  · split
    · rename_i hmask
      exact .noticeSet _ _ hmask
    · exact .none

theorem requestEffect_withLength {lengths : List Nat} {body : List Byte → State → Answer × State} (h : ∀ b s, RequestEffect s (body b s).2)
    (r : Request) (s : State) : RequestEffect s (withLength lengths body r s).2 := by
  unfold withLength
  split
  · exact h _ s
  · exact .none

/-! ## What one command can do -/

/-- The states a command may leave, the transmitter's choice at its end included. -/
inductive Event (s : State) : State → Prop
  | none : Event s s
  | powerOn (rate : LineRate) (haltn : Level) (ev : Per4 Level) :
      Event s { State.powerOn rate haltn ev with pending := s.pending, choices := s.choices, kept := s.kept }
  | channelByte (b : Byte) : Event s (transmit (takeBytes (s.channel.held ++ [b]) s))
  | frameTimer : Event s (transmit (takeBytes s.channel.held.tail (raiseFault .channelFraming s)))
  | request (r : Request) (a : Answer) (t : State) (hr : oldestRequest s = some r) (h : RequestEffect (dequeue s) t) :
      Event s (transmit (placeResponse r a t))
  | restart : Event s (restarted s)
  | frameSent (x : Transmission) (h : s.channel.sending = some x) : Event s (transmit { s with channel := freeLine x.frame s.channel })
  | ackTimer : Event s (transmit { s with notices := expireAck s.notices })
  | linkMark (p : Plan) (l : LinkNo) (k : MarkKind) (b : Option Byte) (hplan : activePlan s = some p) (hdir : (link l s).dir = .receive) :
      Event s (endCatchUp s (transmit (receiveMark p l k b s)))
  | pulseWidthEnd (o : OutputNo) : Event s { s with pulses := s.pulses.set o (endWidth (s.pulses.get o)) }
  | holdoverExpired (p : Plan) (h : limitReached p s.core = true) : Event s (transmit (expireHoldover p s))
  | generatorStep (h : stepDue s.core = true) : Event s (endCatchUp s (transmit (runGenerator false s)))
  | lossTimer (l : LinkNo) : Event s (endCatchUp s (transmit (catchUp false s (expireLoss l s))))
  | holdoffTimer (l : LinkNo) (h : (link l s).qual.state = .failed) :
      Event s (endCatchUp s (transmit (catchUp false s (changeQual l (seekQual (link l s).qual) .holdoffDone s))))
  | haltnJudged (level : Level) : Event s { s with halt := { s.halt with level := level } }
  | haltnAssert : Event s (transmit (assertHalt { s with halt := { s.halt with level := .low } }))
  | haltnRelease : Event s (transmit (releaseHalt { s with halt := { s.halt with level := .high } }))
  | edgeJudged (levels : Per4 Level) : Event s (endEdge s { s with capture := { s.capture with levels := levels } })
  | edgeAccepted (levels : Per4 Level) (line : EventLine) (edge : Edge) (c : Core) :
      Event s (endEdge s (transmit (acceptEdge line edge c { s with capture := { s.capture with levels := levels } })))
  | markLeaves (l : LinkNo) (h : markMayLeave l s = true) : Event s (setLink l { link l s with pair := pairNext (link l s).pair } s)

theorem event_take {c : Instr} {body : Request → State → Answer × State} (h : ∀ r s, RequestEffect s (body r s).2) {s t : State}
    (ht : take c body s = .next t) : Event s t := by
  unfold take handle at ht
  obtain rfl := Host.Outcome.next.inj ht
  split
  · exact .none
  · rename_i r hr
    split
    · exact .request r _ _ hr (h r _)
    · exact .none

theorem event_restartTakesEffect {s t : State} (ht : execRestartTakesEffect s = .next t) : Event s t := by
  obtain rfl := Host.Outcome.next.inj ht
  split
  · exact .restart
  · exact .none

theorem event_transmitDone {s t : State} (ht : execTransmitDone s = .next t) : Event s t := by
  unfold execTransmitDone at ht
  split at ht
  · obtain rfl := Host.Outcome.next.inj ht
    exact .none
  · rename_i x hx
    split at ht
    · obtain rfl := Host.Outcome.next.inj ht
      exact .none
    · split at ht
      · obtain rfl := Host.Outcome.next.inj ht
        exact .restart
      · obtain rfl := Host.Outcome.next.inj ht
        exact .frameSent x hx

theorem event_linkMark {l : LinkNo} {k : MarkKind} {b : Option Byte} {s t : State} (ht : execLinkMark l k b s = .next t) : Event s t := by
  unfold execLinkMark at ht
  split at ht
  · rename_i p hplan
    split at ht
    · rename_i hdir
      obtain rfl := Host.Outcome.next.inj ht
      exact .linkMark p l k b hplan hdir
    · obtain rfl := Host.Outcome.next.inj ht
      exact .none
  · obtain rfl := Host.Outcome.next.inj ht
    exact .none

theorem event_holdoverExpired {s t : State} (ht : execHoldoverExpired s = .next t) : Event s t := by
  unfold execHoldoverExpired at ht
  split at ht
  · rename_i p _
    obtain rfl := Host.Outcome.next.inj ht
    split
    · rename_i h
      exact .holdoverExpired p h
    · exact .none
  · obtain rfl := Host.Outcome.next.inj ht
    exact .none

theorem event_haltnAssert {s t : State} (ht : execHaltnAssert s = .next t) : Event s t := by
  unfold execHaltnAssert at ht
  split at ht
  · obtain rfl := Host.Outcome.next.inj ht
    exact .none
  · obtain rfl := Host.Outcome.next.inj ht
    split
    · exact .haltnAssert
    · exact .haltnJudged .low

theorem event_haltnRelease {s t : State} (ht : execHaltnRelease s = .next t) : Event s t := by
  unfold execHaltnRelease at ht
  split at ht
  · obtain rfl := Host.Outcome.next.inj ht
    exact .none
  · obtain rfl := Host.Outcome.next.inj ht
    split
    · exact .haltnRelease
    · exact .haltnJudged .high

theorem event_eventEdge {line : EventLine} {edge : Edge} {s t : State} (ht : execEventEdge line edge s = .next t) : Event s t := by
  unfold execEventEdge at ht
  split at ht
  · obtain rfl := Host.Outcome.next.inj ht
    exact .none
  · obtain rfl := Host.Outcome.next.inj ht
    split
    · exact .edgeAccepted _ line edge _
    · exact .edgeJudged _

/-- A command taken only under a condition leaves the state as it is otherwise. -/
theorem event_guarded {c : Prop} [Decidable c] {u s t : State} (h : c → Event s u)
    (ht : (if c then Host.Outcome.next u else .next s : Host.Outcome State Fault Refusal) = .next t) : Event s t := by
  split at ht
  · rename_i hc
    obtain rfl := Host.Outcome.next.inj ht
    exact h hc
  · obtain rfl := Host.Outcome.next.inj ht
    exact .none

/-- Every command that answers a next state is one of the events. -/
theorem event_of_exec {i : Instr} {s t : State} (ht : exec i s = .next t) : Event s t := by
  cases i with
  | powerOnReset b1 b0 h ev => obtain rfl := Host.Outcome.next.inj ht; exact .powerOn _ h ev
  | channelByte b => obtain rfl := Host.Outcome.next.inj ht; exact .channelByte b
  | frameTimerExpiry => exact event_guarded (fun _ => .frameTimer) ht
  | undefinedRequest => exact event_take (fun _ _ => .none) ht
  | ping => exact event_take (requestEffect_withLength fun _ _ => .none) ht
  | restart => exact event_take (fun r => requestEffect_withLength (fun _ _ => .holdRestart r) r) ht
  | restartTakesEffect => exact event_restartTakesEffect ht
  | planWrite => exact event_take (requestEffect_withLength requestEffect_planWrite) ht
  | planRead => exact event_take (requestEffect_withLength requestEffect_planRead) ht
  | planClear => exact event_take (requestEffect_withLength requestEffect_planClear) ht
  | fallbackSet => exact event_take (requestEffect_withLength requestEffect_fallbackSet) ht
  | fallbackRead => exact event_take (requestEffect_withLength fun _ _ => .none) ht
  | linkSet => exact event_take (requestEffect_withLength requestEffect_linkSet) ht
  | linkRead => exact event_take (requestEffect_withLength requestEffect_linkRead) ht
  | timeStart => exact event_take (requestEffect_withLength requestEffect_timeStart) ht
  | timeStop => exact event_take (requestEffect_withLength requestEffect_timeStop) ht
  | timeRead => exact event_take (requestEffect_withLength fun _ _ => .none) ht
  | actionAdd => exact event_take (requestEffect_withLength requestEffect_actionAdd) ht
  | actionCancel => exact event_take (requestEffect_withLength requestEffect_actionCancel) ht
  | actionList => exact event_take (requestEffect_withLength requestEffect_actionList) ht
  | lineSet => exact event_take (requestEffect_withLength requestEffect_lineSet) ht
  | captureRead => exact event_take (requestEffect_withLength fun _ _ => .captureRead) ht
  | haltSet => exact event_take (requestEffect_withLength requestEffect_haltSet) ht
  | noticeAck => exact event_take (requestEffect_withLength requestEffect_noticeAck) ht
  | noticeSet => exact event_take (requestEffect_withLength requestEffect_noticeSet) ht
  | transmitDone => exact event_transmitDone ht
  | ackTimerExpiry => exact event_guarded (fun _ => .ackTimer) ht
  | linkMark l k b => exact event_linkMark ht
  | pulseWidthEnd o => obtain rfl := Host.Outcome.next.inj ht; exact .pulseWidthEnd o
  | holdoverExpired => exact event_holdoverExpired ht
  | generatorStep => exact event_guarded .generatorStep ht
  | lossTimerExpiry l => exact event_guarded (fun _ => .lossTimer l) ht
  | holdoffTimerExpiry l => exact event_guarded (fun h => .holdoffTimer l h.1) ht
  | haltnAssert => exact event_haltnAssert ht
  | haltnRelease => exact event_haltnRelease ht
  | eventEdge line edge => exact event_eventEdge ht
  | caughtUpMarkLeaves l => exact event_guarded (.markLeaves l) ht

/-- What every event and every tick keeps is kept by every step. -/
theorem step_keeps {P : State → Prop} (hpending : ∀ s rest, P s → P { s with pending := rest }) (htick : ∀ s, P s → P (tick s))
    (hevent : ∀ s t, P s → Event s t → P t) {s t : State} (hs : P s) (ht : step s = .next t) : P t := by
  unfold step at ht
  split at ht
  · obtain rfl := Host.Outcome.next.inj ht
    exact htick s hs
  · exact hevent _ t (hpending s _ hs) (event_of_exec ht)

end Sys2Proof.Machine
end

section
/-! SUPPORT. What each operation makes of one link, as an equation: a link that is turned off, that takes a direction, and that sends a mark. -/

namespace Sys2Proof.Machine

/-! ## Operations that leave the links -/

section
variable (l : LinkNo) (s : State)

@[simp] theorem link_setCore (c : Core) : link l (setCore c s) = link l s := rfl
@[simp] theorem link_raise (n : Notice) : link l (raise n s) = link l s := rfl
@[simp] theorem link_raiseFault (c : FaultCause) : link l (raiseFault c s) = link l s := rfl
@[simp] theorem link_raiseTime (p : CoreState) (j : Option Time) : link l (raiseTime p j s) = link l s := rfl
@[simp] theorem link_raiseLink (m : LinkNo) (p : QualState) (c : LinkCause) : link l (raiseLink m p c s) = link l s := rfl
@[simp] theorem link_raisePlan (p : Option PlanNo) (c : PlanCause) (i : SyncIndex) : link l (raisePlan p c i s) = link l s := rfl
@[simp] theorem link_raiseItem (e : Entry) (o : Ending) : link l (raiseItem e o s) = link l s := rfl
@[simp] theorem link_forcePulses : link l (forcePulses s) = link l s := rfl
@[simp] theorem link_countPulses : link l (countPulses s) = link l s := rfl
@[simp] theorem link_keepPassing : link l (keepPassing s) = link l s := rfl
@[simp] theorem link_dequeue : link l (dequeue s) = link l s := rfl
@[simp] theorem link_select (p : Plan) (new : Option LinkNo) : link l (select p new s) = link l s := rfl
@[simp] theorem link_transmit : link l (transmit s) = link l s := link_congr (transmit_links s) l
@[simp] theorem link_endCatchUp (b : State) : link l (endCatchUp b s) = link l s := congrArg (fun x : Blocks => x.links.get l) (endCatchUp_toBlocks b s)
@[simp] theorem link_endEdge (b : State) : link l (endEdge b s) = link l s := congrArg (fun x : Blocks => x.links.get l) (endEdge_toBlocks b s)

@[simp] theorem reevaluate_links : (reevaluate s).links = s.links := by
  unfold reevaluate
  split
  · rfl
  · split <;> rfl
@[simp] theorem link_reevaluate : link l (reevaluate s) = link l s := link_congr (reevaluate_links s) l

end

/-! ## One link written -/

theorem link_setQual (l m : LinkNo) (q : Qualifier) (s : State) :
    link m (setQual l q s) = if m = l then { link l s with qual := q } else link m s := link_setLink l m _ s

theorem link_setRx (l m : LinkNo) (rx : Receiver) (s : State) :
    link m (setRx l rx s) = if m = l then { link l s with rx := rx } else link m s := link_setLink l m _ s

@[simp] theorem link_setQual_self (l : LinkNo) (q : Qualifier) (s : State) : link l (setQual l q s) = { link l s with qual := q } :=
  link_setLink_self l _ s

@[simp] theorem link_setRx_self (l : LinkNo) (rx : Receiver) (s : State) : link l (setRx l rx s) = { link l s with rx := rx } :=
  link_setLink_self l _ s

/-- A link as it stands when written back changes nothing. -/
theorem setLink_self (l : LinkNo) (s : State) : setLink l (link l s) s = s := by
  simp [setLink, link]

/-! ## Directions -/

/-- A link that is OFF with a new direction: RECEIVE takes its qualifier to SEEK (R46). -/
def enteredLink (d : Direction) (u : LinkUnit) : LinkUnit :=
  if d = .receive then { u with dir := d, qual := seekQual u.qual } else { u with dir := d }

/-- A link with the direction of a new active plan, through OFF when that is another (R24, R52 a). -/
def directedLink (sps : Nat) (d : Direction) (u : LinkUnit) : LinkUnit :=
  if u.dir = d then keepReceiving sps u else enteredLink d (turnOff u)

/-- A link after TIME_STOP (R24 a, R152 d). -/
def stoppedLink (u : LinkUnit) : LinkUnit :=
  { (if u.dir = .off then u else turnOff u) with pair := { (if u.dir = .off then u else turnOff u).pair with waiting := [] } }

/-- A link after a mark of a counted step (R26). -/
def sentOn (m : Mark) (u : LinkUnit) : LinkUnit := if u.dir = .send then { u with pair := pairSend m u.pair } else u

theorem link_leaveDirection (l m : LinkNo) (s : State) :
    link m (leaveDirection l s) = if m = l then turnOff (link l s) else link m s := by
  unfold leaveDirection
  dsimp only
  split <;> exact link_setLink l m _ s

theorem link_enterDirection (l m : LinkNo) (d : Direction) (s : State) :
    link m (enterDirection l d s) = if m = l then enteredLink d (link l s) else link m s := by
  unfold enterDirection enteredLink
  dsimp only
  split <;> exact link_setLink l m _ s

theorem link_setDirection (sps : Nat) (l m : LinkNo) (d : Direction) (s : State) :
    link m (setDirection sps l d s) = if m = l then directedLink sps d (link l s) else link m s := by
  unfold setDirection directedLink
  split
  · exact link_setLink l m _ s
  · rw [link_enterDirection, link_leaveDirection, link_leaveDirection, if_pos rfl]
    split <;> rfl

/-- A fold over distinct links of steps that each write their own link writes each link of the list, and no other. -/
theorem link_foldl {f : State → LinkNo → State} {g : LinkNo → LinkUnit → LinkUnit}
    (h : ∀ s l m, link m (f s l) = if m = l then g l (link l s) else link m s) {ls : List LinkNo} (hls : ls.Nodup) (m : LinkNo) (s : State) :
    link m (ls.foldl f s) = if m ∈ ls then g m (link m s) else link m s := by
  induction ls generalizing s with
  | nil => rfl
  | cons x xs ih =>
    obtain ⟨hx, hxs⟩ := List.nodup_cons.mp hls
    rw [List.foldl_cons, ih hxs, h]
    by_cases hm : m = x
    · subst hm
      simp [hx]
    · simp [hm]

theorem nodup_allLinks : allLinks.Nodup := by decide
theorem mem_allLinks (l : LinkNo) : l ∈ allLinks := by fin_cases l <;> decide

/-- Every link takes the direction of the plan. -/
theorem link_setDirections (p : Plan) (m : LinkNo) (s : State) :
    link m (setDirections p s) = directedLink p.sps (p.dirs.get m) (link m s) := by
  rw [setDirections, link_foldl (fun s l m => link_setDirection p.sps l m (p.dirs.get l) s) nodup_allLinks, if_pos (mem_allLinks m)]

theorem link_dropWaiting (m : LinkNo) (s : State) :
    link m (dropWaiting s) = { link m s with pair := { (link m s).pair with waiting := [] } } := Per6.get_map _ _ m

theorem link_allOff (m : LinkNo) (s : State) : link m (allOff s) = stoppedLink (link m s) := by
  have hstep : ∀ (s : State) (l m : LinkNo), link m (if (link l s).dir = .off then s else leaveDirection l s)
      = if m = l then (if (link l s).dir = .off then link l s else turnOff (link l s)) else link m s := by
    intro s l m
    split
    · split
      · rename_i hm
        rw [hm]
      · rfl
    · exact link_leaveDirection l m s
  have hfold := link_foldl (g := fun _ u => if u.dir = .off then u else turnOff u) hstep nodup_allLinks m s
  rw [if_pos (mem_allLinks m)] at hfold
  rw [allOff, link_dropWaiting, hfold, stoppedLink]

theorem link_emit (mk : Mark) (m : LinkNo) (s : State) : link m (emit mk s) = if mayEmit s.core then sentOn mk (link m s) else link m s := by
  unfold emit
  split
  · exact Per6.get_map _ _ m
  · rfl

/-! ## What the directions leave of the state -/

/-- Only the links and the notice unit may differ. -/
def LinksAndNotices (s t : State) : Prop := ∃ k n, t = { s with links := k, notices := n }

theorem LinksAndNotices.trans {s t u : State} (h : LinksAndNotices s t) (k : LinksAndNotices t u) : LinksAndNotices s u := by
  obtain ⟨k1, n1, rfl⟩ := h
  obtain ⟨k2, n2, rfl⟩ := k
  exact ⟨k2, n2, rfl⟩

theorem LinksAndNotices.foldl {f : State → LinkNo → State} (h : ∀ s l, LinksAndNotices s (f s l)) (ls : List LinkNo) (s : State) :
    LinksAndNotices s (ls.foldl f s) := by
  induction ls generalizing s with
  | nil => exact ⟨_, _, rfl⟩
  | cons x xs ih => exact (h s x).trans (ih _)

theorem LinksAndNotices.eq {s t : State} (h : LinksAndNotices s t) : t = { s with links := t.links, notices := t.notices } := by
  obtain ⟨k, n, rfl⟩ := h
  rfl

section
variable {s t : State} (h : LinksAndNotices s t)
include h

theorem LinksAndNotices.core : t.core = s.core := by obtain ⟨k, n, rfl⟩ := h; rfl
theorem LinksAndNotices.plans : t.plans = s.plans := by obtain ⟨k, n, rfl⟩ := h; rfl
theorem LinksAndNotices.sel : t.sel = s.sel := by obtain ⟨k, n, rfl⟩ := h; rfl
theorem LinksAndNotices.outSet : t.outSet = s.outSet := by obtain ⟨k, n, rfl⟩ := h; rfl
theorem LinksAndNotices.sched : t.sched = s.sched := by obtain ⟨k, n, rfl⟩ := h; rfl

end

theorem linksAndNotices_leaveDirection (l : LinkNo) (s : State) : LinksAndNotices s (leaveDirection l s) := by
  unfold leaveDirection
  dsimp only
  split <;> exact ⟨_, _, rfl⟩

theorem linksAndNotices_enterDirection (l : LinkNo) (d : Direction) (s : State) : LinksAndNotices s (enterDirection l d s) := by
  unfold enterDirection
  dsimp only
  split <;> exact ⟨_, _, rfl⟩

theorem linksAndNotices_setDirection (sps : Nat) (l : LinkNo) (d : Direction) (s : State) : LinksAndNotices s (setDirection sps l d s) := by
  unfold setDirection
  split
  · exact ⟨_, _, rfl⟩
  · exact (linksAndNotices_leaveDirection l s).trans (linksAndNotices_enterDirection l d _)

theorem linksAndNotices_setDirections (p : Plan) (s : State) : LinksAndNotices s (setDirections p s) :=
  .foldl (fun s l => linksAndNotices_setDirection p.sps l (p.dirs.get l) s) allLinks s

theorem linksAndNotices_allOff (s : State) : LinksAndNotices s (allOff s) := by
  refine .trans (.foldl (fun s l => ?_) allLinks s) ⟨_, _, rfl⟩
  split
  · exact ⟨_, _, rfl⟩
  · exact linksAndNotices_leaveDirection l s

end Sys2Proof.Machine
end

section
/-! SUPPORT. The notice unit (R162 to R169): what each of its operations keeps of its invariant. -/

namespace Sys2Proof.Machine

/-! ## The pending list -/

theorem noticeKey_coalesce {old new : Notice} (h : noticeKey old = noticeKey new) : noticeKey (coalesce old new) = noticeKey new := by
  cases old <;> cases new <;> simp_all [noticeKey, coalesce]

/-- A raise leaves the keys of the pending list, or adds its own at the young end (R162 b, c). -/
theorem keys_putNotice (n : Notice) (l : List Notice) :
    (putNotice n l).map noticeKey = if noticeKey n ∈ l.map noticeKey then l.map noticeKey else l.map noticeKey ++ [noticeKey n] := by
  induction l with
  | nil => rfl
  | cons m ms ih =>
    by_cases hkey : noticeKey m = noticeKey n
    · rw [putNotice, if_pos hkey, List.map_cons, noticeKey_coalesce hkey, ← hkey]
      simp
    · rw [putNotice, if_neg hkey, List.map_cons, ih]
      by_cases hmem : noticeKey n ∈ ms.map noticeKey <;> simp [hmem, Ne.symm hkey]

theorem nodup_keys_putNotice (n : Notice) {l : List Notice} (h : (l.map noticeKey).Nodup) : ((putNotice n l).map noticeKey).Nodup := by
  rw [keys_putNotice]
  split
  · exact h
  · rename_i hnew
    exact List.nodup_append.mpr ⟨h, List.nodup_singleton _, fun a ha b hb => by rintro rfl; exact hnew (List.mem_singleton.mp hb ▸ ha)⟩

/-- A raise writes the pending list alone. -/
theorem raised_eq (n : Notice) (u : NoticeUnit) :
    raised n u = { u with unsent := if u.mask.getLsbD (maskBit (noticeKey n)) then putNotice n u.unsent else u.unsent } := by
  unfold raised
  split <;> rfl

theorem noticeInv_raised (n : Notice) {u : NoticeUnit} (h : NoticeInv u) : NoticeInv (raised n u) := by
  obtain ⟨hkeys, hrest⟩ := h
  rw [raised_eq]
  refine ⟨?_, hrest⟩
  dsimp only
  split
  · exact nodup_keys_putNotice n hkeys
  · exact hkeys

/-! ## The window -/

theorem consecutiveWindow_iff (u : NoticeUnit) : ConsecutiveWindow u ↔
    ∀ (i : Nat) (h : i < u.window.length), u.window[i].seq = u.nextSeq - BitVec.ofNat 16 u.window.length + BitVec.ofNat 16 i := by
  unfold ConsecutiveWindow
  constructor
  · intro h i hi
    have := congrArg (fun l => l[i]?) h
    simpa [hi] using this
  · intro h
    refine List.ext_getElem (by simp) fun i hi _ => ?_
    simpa using h i (by simpa using hi)

/-- The notice sent takes the number after the window's last one (R166). -/
theorem consecutiveWindow_append {u : NoticeUnit} (n : Notice) (h : ConsecutiveWindow u) :
    ConsecutiveWindow { u with window := u.window ++ [{ seq := u.nextSeq, notice := n }], nextSeq := u.nextSeq + 1 } := by
  rw [consecutiveWindow_iff] at h ⊢
  intro i hi
  have hshift : u.nextSeq + 1 - BitVec.ofNat 16 (u.window.length + 1) = u.nextSeq - BitVec.ofNat 16 u.window.length := by
    rw [BitVec.ofNat_add, show BitVec.ofNat 16 1 = (1 : BitVec 16) from rfl]
    ring
  simp only [List.length_append, List.length_singleton] at hi
  simp only [List.length_append, List.length_singleton, hshift]
  rcases Nat.lt_or_ge i u.window.length with hlt | hge
  · rw [List.getElem_append_left hlt]
    exact h i hlt
  · obtain rfl : i = u.window.length := by omega
    simp

/-- The notices that an acknowledgement leaves keep their numbers (R167). -/
theorem consecutiveWindow_of_append {u : NoticeUnit} {gone left : List SentNotice} (hw : u.window = gone ++ left) (h : ConsecutiveWindow u) :
    ConsecutiveWindow { u with window := left } := by
  rw [consecutiveWindow_iff] at h ⊢
  intro i hi
  dsimp only at hi ⊢
  have hlen : u.window.length = gone.length + left.length := by rw [hw, List.length_append]
  have hseq := h (gone.length + i) (by omega)
  simp only [hw, List.length_append, List.getElem_append_right (Nat.le_add_right _ _), Nat.add_sub_cancel_left] at hseq
  rw [hseq, BitVec.ofNat_add, BitVec.ofNat_add]
  ring

theorem splitWindow_eq_some {q : SeqNo} {w gone left : List SentNotice} (h : splitWindow q w = some (gone, left)) : w = gone ++ left := by
  induction w generalizing gone left with
  | nil => cases h
  | cons n ns ih =>
    rw [splitWindow] at h
    split at h
    · obtain ⟨rfl, rfl⟩ := Prod.mk.inj (Option.some.inj h)
      rfl
    · split at h
      · rename_i hs
        obtain ⟨rfl, rfl⟩ := Prod.mk.inj (Option.some.inj h)
        rw [ih hs, List.cons_append]
      · cases h

/-! ## The transmitter's notices -/

/-- What the notice unit offers while LIVE: a notice of its window while a resend round runs, and else the oldest unsent one if the window has room (R166). -/
theorem noticeOffer_again {u : NoticeUnit} {n : SentNotice} (h : noticeOffer u = some (.again n)) :
    u.liveness = .live ∧ ∃ q rest, u.resend = q :: rest ∧ u.window.find? (fun m => m.seq == q) = some n := by
  unfold noticeOffer at h
  split at h
  · cases h
  · rename_i hlive
    split at h
    · rename_i q rest hq
      refine ⟨hlive, q, rest, hq, ?_⟩
      simpa using h
    · split at h <;> simp at h

theorem noticeOffer_fresh {u : NoticeUnit} {n : Notice} (h : noticeOffer u = some (.fresh n)) :
    u.liveness = .live ∧ u.resend = [] ∧ u.window.length < 4 ∧ ∃ rest, u.unsent = n :: rest := by
  unfold noticeOffer at h
  split at h
  · cases h
  · rename_i hlive
    split at h
    · simp at h
    · rename_i hresend
      split at h
      · rename_i hroom
        refine ⟨hlive, hresend, hroom, ?_⟩
        cases hu : u.unsent with
        | nil => simp [hu] at h
        | cons m ms => exact ⟨ms, by simpa [hu] using h⟩
      · cases h

theorem noticeInv_transmit {s : State} (h : NoticeInv s.notices) : NoticeInv (transmit s).notices := by
  unfold transmit
  split
  · exact h
  · split
    · exact h
    · split
      · rename_i o ho
        obtain ⟨hkeys, hlen, hseq, hresend, htimer, hquiet, hlive, hmask⟩ := h
        cases o with
        | again n =>
          obtain ⟨hl, q, rest, hq, hfind⟩ := noticeOffer_again ho
          have hwindow : s.notices.window ≠ [] := List.ne_nil_of_mem (List.mem_of_find?_eq_some hfind)
          refine ⟨hkeys, hlen, hseq, (List.tail_sublist _).trans hresend, fun _ => hwindow, fun hc => ?_, hlive, hmask⟩
          exact absurd (hl.symm.trans hc) (by decide)
        | fresh n =>
          obtain ⟨hl, hnone, hroom, rest, hrest⟩ := noticeOffer_fresh ho
          refine ⟨?_, ?_, consecutiveWindow_append n hseq, ?_, fun _ => by simp [beginNotice], fun hc => ?_, hlive, hmask⟩
          · exact hkeys.sublist ((List.tail_sublist _).map _)
          · simpa [beginNotice] using Nat.succ_le_of_lt hroom
          · simp [beginNotice, hnone]
          · exact absurd (hl.symm.trans hc) (by decide)
      · exact h

/-! ## Reports, expiries, acknowledgements and settings -/

theorem noticeInv_reportValid {u : NoticeUnit} (h : NoticeInv u) : NoticeInv (reportValid u) := by
  obtain ⟨hkeys, hlen, hseq, hresend, htimer, hquiet, hlive, hmask⟩ := h
  unfold reportValid
  split
  · rename_i hl
    exact ⟨hkeys, hlen, hseq, hresend, htimer, fun hc => absurd (hl.symm.trans hc) (by decide), fun _ => Nat.zero_le _, hmask⟩
  · exact ⟨hkeys, hlen, hseq, .refl _, htimer, nofun, fun _ => Nat.zero_le _, hmask⟩

theorem noticeInv_expireAck {u : NoticeUnit} (h : NoticeInv u) : NoticeInv (expireAck u) := by
  obtain ⟨hkeys, hlen, hseq, hresend, htimer, hquiet, hlive, hmask⟩ := h
  unfold expireAck
  split
  · rename_i hretry
    refine ⟨hkeys, hlen, hseq, .refl _, nofun, fun hc => ?_, fun _ => by dsimp only; omega, hmask⟩
    have := (hquiet hc).1
    omega
  · exact ⟨hkeys, hlen, hseq, List.nil_sublist _, nofun, fun _ => ⟨rfl, rfl, rfl⟩, nofun, hmask⟩

theorem noticeInv_acknowledged {u : NoticeUnit} {gone left : List SentNotice} (hw : u.window = gone ++ left) (h : NoticeInv u) :
    NoticeInv (acknowledged gone left u) := by
  obtain ⟨hkeys, hlen, hseq, hresend, htimer, hquiet, hlive, hmask⟩ := h
  rw [hw, List.length_append] at hlen
  have hleft : (u.resend.filter (fun q => q ∉ gone.map SentNotice.seq)).Sublist (left.map SentNotice.seq) := by
    refine (hresend.filter _).trans ?_
    have hgone : (gone.map SentNotice.seq).filter (fun q => q ∉ gone.map SentNotice.seq) = [] := by
      rw [List.filter_eq_nil_iff]
      intro a ha
      simp only [decide_not, Bool.not_eq_true', decide_eq_false_iff_not, not_not]
      exact ha
    rw [hw, List.map_append, List.filter_append, hgone, List.nil_append]
    exact List.filter_sublist
  refine ⟨hkeys, by dsimp only [acknowledged]; omega, consecutiveWindow_of_append hw hseq, hleft, fun ht => ?_, fun hc => ?_, hlive, hmask⟩
  · intro hl
    simp [acknowledged, show left = [] from hl] at ht
  · obtain ⟨hretry, -, hnone⟩ := hquiet hc
    exact ⟨hretry, if_pos (Or.inr hc), by simp [acknowledged, hnone]⟩

theorem noticeInv_settings {u : NoticeUnit} (timeout : Nat) {m : Byte} (hm : maskAllowed m = true) (h : NoticeInv u) :
    NoticeInv { u with timeout := timeout, mask := m } := by
  obtain ⟨hkeys, hlen, hseq, hresend, htimer, hquiet, hlive, -⟩ := h
  exact ⟨hkeys, hlen, hseq, hresend, htimer, hquiet, hlive, hm⟩

theorem noticeInv_tick {u : NoticeUnit} (h : NoticeInv u) : NoticeInv { u with timer := tickTimer u.timer } := by
  obtain ⟨hkeys, hlen, hseq, hresend, htimer, hquiet, hlive, hmask⟩ := h
  refine ⟨hkeys, hlen, hseq, hresend, fun ht => htimer (by simpa [tickTimer] using ht), fun hc => ?_, hlive, hmask⟩
  obtain ⟨hretry, hnone, hres⟩ := hquiet hc
  exact ⟨hretry, by simp [hnone, tickTimer], hres⟩

theorem noticeInv_reset : NoticeInv NoticeUnit.reset := by
  refine ⟨by decide, by decide, rfl, List.Sublist.refl _, nofun, nofun, fun _ => Nat.zero_le _, by decide⟩

theorem noticeInv_restarted {u : NoticeUnit} (h : NoticeInv u) :
    NoticeInv (raised (.ready .restart) { NoticeUnit.reset with unsent := [], timeout := u.timeout, mask := u.mask }) := by
  obtain ⟨-, -, -, -, -, -, -, hmask⟩ := h
  exact noticeInv_raised _ ⟨List.nodup_nil, Nat.zero_le _, rfl, List.Sublist.refl _, nofun, nofun, fun _ => Nat.zero_le _, hmask⟩

end Sys2Proof.Machine
end

section
/-! SUPPORT. The schedule (R90, R91, R97 to R110): what each of its operations keeps of its invariant. -/

namespace Sys2Proof.Machine

/-! ## The ids that a queue holds -/

/-- The action id and the order id of each entry, in queue order. -/
def entryKeys (q : List Entry) : List (Nat × Option OrderId) := q.map (fun e => (e.id, e.orderId))

theorem map_id_eq_entryKeys (q : List Entry) : q.map Entry.id = (entryKeys q).map Prod.fst := by
  simp [entryKeys]

theorem filterMap_orderId_eq_entryKeys (q : List Entry) : q.filterMap Entry.orderId = (entryKeys q).filterMap Prod.snd := by
  simp [entryKeys, List.filterMap_map]

/-- A queue in order of due that holds the same ids keeps the invariant. -/
theorem scheduleInv_of_entryKeys {c : Schedule} {q : List Entry} (h : ScheduleInv c) (hsorted : q.Pairwise fun a b => a.due.toNat ≤ b.due.toNat)
    (hkeys : (entryKeys q).Perm (entryKeys c.queue)) : ScheduleInv { c with queue := q } := by
  obtain ⟨hlen, -, hids, horders, hspent, hnodup, hapart, hrange, hnext⟩ := h
  have hid : (q.map Entry.id).Perm (c.queue.map Entry.id) := by
    simpa only [map_id_eq_entryKeys] using hkeys.map Prod.fst
  have horder : (q.filterMap Entry.orderId).Perm (c.queue.filterMap Entry.orderId) := by
    simpa only [filterMap_orderId_eq_entryKeys] using hkeys.filterMap Prod.snd
  refine ⟨?_, hsorted, hid.nodup_iff.mpr hids, horder.nodup_iff.mpr horders, hspent, hnodup, fun o ho hmem => hapart o ho (horder.mem_iff.mp hmem),
    fun e he => ?_, hnext⟩
  · simpa [entryKeys] using hkeys.length_eq.trans_le (by simpa [entryKeys] using hlen)
  · obtain ⟨x, hx, hxid⟩ := List.mem_map.mp (hid.mem_iff.mp (List.mem_map_of_mem he))
    exact hxid ▸ hrange x hx

/-- A change of the entries that keeps their ids, order ids and dues keeps the invariant. -/
theorem scheduleInv_map {c : Schedule} {f : Entry → Entry} (h : ScheduleInv c) (hid : ∀ e, (f e).id = e.id) (horder : ∀ e, (f e).orderId = e.orderId)
    (hdue : ∀ e, (f e).due = e.due) : ScheduleInv { c with queue := c.queue.map f } := by
  refine scheduleInv_of_entryKeys h ?_ ?_
  · have hsorted := h.2.1
    rw [List.pairwise_map]
    simpa only [hdue] using hsorted
  · simp [entryKeys, Function.comp_def, hid, horder]

theorem scheduleInv_spendOffers {c : Schedule} (h : ScheduleInv c) : ScheduleInv (spendOffers c) :=
  scheduleInv_map h (fun e => by split <;> rfl) (fun e => by split <;> rfl) (fun e => by split <;> rfl)

theorem scheduleInv_finishEntry {c : Schedule} (id : Nat) (o : Ending) (h : ScheduleInv c) :
    ScheduleInv { c with queue := finishEntry id o c.queue } :=
  scheduleInv_map h (fun e => by split <;> rfl) (fun e => by split <;> rfl) (fun e => by split <;> rfl)

theorem scheduleInv_recordReport {c : Schedule} (q : SeqNo) (n : Notice) (h : ScheduleInv c) : ScheduleInv (recordReport q n c) := by
  unfold recordReport
  split
  · exact scheduleInv_map h (fun e => by split <;> rfl) (fun e => by split <;> rfl) (fun e => by split <;> rfl)
  · exact h

theorem scheduleInv_transmit {s : State} (h : ScheduleInv s.sched) : ScheduleInv (transmit s).sched := by
  unfold transmit
  split
  · exact h
  · split
    · exact h
    · split
      · rename_i o _
        cases o with
        | again n => exact h
        | fresh n => exact scheduleInv_recordReport _ n h
      · exact h

/-! ## Insertion -/

theorem insertByDue_perm (e : Entry) (q : List Entry) : (insertByDue e q).Perm (e :: q) := by
  induction q with
  | nil => exact .refl _
  | cons x xs ih =>
    rw [insertByDue]
    split
    · exact (ih.cons x).trans (.swap e x xs)
    · exact .refl _

theorem pairwise_insertByDue (e : Entry) {q : List Entry} (h : q.Pairwise fun a b => a.due.toNat ≤ b.due.toNat) :
    (insertByDue e q).Pairwise fun a b => a.due.toNat ≤ b.due.toNat := by
  obtain ⟨before, after, rfl, hq, hbefore, hafter⟩ := insertedByDue_insertByDue (e := e) h
  obtain ⟨hb, ha, hcross⟩ := List.pairwise_append.mp h
  rw [hq]
  refine List.pairwise_append.mpr ⟨hb, List.pairwise_cons.mpr ⟨fun x hx => (hafter x hx).le, ha⟩, fun x hx y hy => ?_⟩
  rcases List.mem_cons.mp hy with rfl | hy
  · exact hbefore x hx
  · exact hcross x hx y hy

/-- One entry more, under a fresh id and with an order id that is held nowhere, where the queue has a free slot (R90, R91, R93). -/
theorem scheduleInv_insertAction {c : Schedule} {o : Option OrderId} (a : Action) (due : Time) (origin : Origin) (sends : Nat) (h : ScheduleInv c)
    (hroom : queueFull c ≠ true) (hnew : ∀ id, o = some id → orderKnown id c ≠ true) : ScheduleInv (insertAction a due origin o sends c).2 := by
  obtain ⟨hlen, hsorted, hids, horders, hspent, hnodup, hapart, hrange, hnext⟩ := h
  rw [ne_eq, queueFull_iff, Nat.not_le] at hroom
  obtain ⟨hfresh, k, -, hk, -⟩ := freshId_freeId (c := c) (by omega) hnext
  set e : Entry := { id := freeId c.queue 255 c.nextId, action := a, due := due, outcome := none, origin := origin, orderId := o, sends := sends,
                     reportedIn := none } with he
  have hperm := insertByDue_perm e c.queue
  have hbounds : 1 ≤ e.id ∧ e.id ≤ 255 := by
    rw [show e.id = idAfter c.nextId k from hk]
    exact idAfter_bounds _ _
  have hoEq : ∀ id ∈ (insertByDue e c.queue).filterMap Entry.orderId, o = some id ∨ id ∈ c.queue.filterMap Entry.orderId := by
    intro id hid
    obtain ⟨x, hx, hxo⟩ := List.mem_filterMap.mp hid
    rcases List.mem_cons.mp (hperm.mem_iff.mp hx) with rfl | hx
    · exact .inl hxo
    · exact .inr (List.mem_filterMap.mpr ⟨x, hx, hxo⟩)
  refine ⟨?_, pairwise_insertByDue e hsorted, ?_, ?_, hspent, hnodup, ?_, ?_, succId_bounds hbounds.2⟩
  · exact hperm.length_eq.trans_le (by rw [List.length_cons]; omega)
  · exact (hperm.map Entry.id).nodup_iff.mpr (List.nodup_cons.mpr ⟨hfresh, hids⟩)
  · refine (hperm.filterMap Entry.orderId).nodup_iff.mpr ?_
    cases ho : o with
    | none => simpa [he, ho] using horders
    | some id =>
      have hnot : id ∉ c.queue.filterMap Entry.orderId := by
        intro hmem
        obtain ⟨x, hx, hxo⟩ := List.mem_filterMap.mp hmem
        exact hnew id ho (orderKnown_iff.mpr (.inl ⟨x, hx, hxo⟩))
      rw [List.filterMap_cons_some (show Entry.orderId e = some id from ho)]
      exact List.nodup_cons.mpr ⟨hnot, horders⟩
  · intro id hid hmem
    rcases hoEq id hmem with ho | hold
    · exact hnew id ho (orderKnown_iff.mpr (.inr hid))
    · exact hapart id hid hold
  · intro x hx
    rcases List.mem_cons.mp (hperm.mem_iff.mp hx) with rfl | hx
    · exact hbounds
    · exact hrange x hx

/-! ## The end of a turn -/

/-- The entry that holds an id stands apart from the rest of the queue. -/
theorem perm_cons_filter_id {q : List Entry} {x : Entry} (hids : (q.map Entry.id).Nodup) (hx : x ∈ q) :
    q.Perm (x :: q.filter (fun y => y.id ≠ x.id)) := by
  obtain ⟨before, after, rfl⟩ := List.append_of_mem hx
  rw [List.map_append, List.map_cons, List.nodup_middle, List.nodup_cons, ← List.map_append] at hids
  have hother : ∀ y ∈ before ++ after, y.id ≠ x.id := fun y hy heq => hids.1 (heq ▸ List.mem_map_of_mem hy)
  have hfilter : (before ++ x :: after).filter (fun y => decide (y.id ≠ x.id)) = before ++ after := by
    rw [List.filter_append, List.filter_cons_of_neg (by simp), ← List.filter_append]
    exact List.filter_eq_self.mpr fun y hy => by simpa using hother y hy
  rw [hfilter]
  exact List.perm_middle

theorem nodup_ids_of_entryKeys {q : List Entry} {c : Schedule} (h : ScheduleInv c) (hkeys : (entryKeys q).Perm (entryKeys c.queue)) :
    (q.map Entry.id).Nodup := by
  rw [map_id_eq_entryKeys]
  exact (hkeys.map Prod.fst).nodup_iff.mpr (by rw [← map_id_eq_entryKeys]; exact h.2.2.1)

/-- An entry's turn ends with the same ids held, in order of due (R102). -/
theorem endTurn_keeps {q : List Entry} {e : Entry} (v : Time) (sps : Nat) (outcomes : List (Nat × Ending)) (hids : (q.map Entry.id).Nodup)
    (hsorted : q.Pairwise fun a b => a.due.toNat ≤ b.due.toNat) (he : (e.id, e.orderId) ∈ entryKeys q) :
    (endTurn v sps outcomes q e).Pairwise (fun a b => a.due.toNat ≤ b.due.toNat) ∧ (entryKeys (endTurn v sps outcomes q e)).Perm (entryKeys q) := by
  unfold endTurn
  split
  · refine ⟨?_, .of_eq ?_⟩
    · rw [List.pairwise_map]
      refine hsorted.imp fun {a b} hab => ?_
      split <;> split <;> exact hab
    · rw [entryKeys, List.map_map]
      refine List.map_congr_left fun x _ => ?_
      dsimp only [Function.comp]
      split <;> rfl
  · refine ⟨pairwise_insertByDue _ (hsorted.sublist List.filter_sublist), ?_⟩
    obtain ⟨x, hx, hkey⟩ := List.mem_map.mp he
    obtain ⟨hid, horder⟩ := Prod.mk.inj hkey
    refine ((insertByDue_perm _ _).map _).trans ?_
    refine .trans ?_ ((perm_cons_filter_id hids hx).map _).symm
    rw [hid]
    simp only [List.map_cons, hid, horder]
    exact .refl _

/-- The entries of a firing end their turns with the same ids held, in order of due (R102). -/
theorem scheduleInv_endTurns {c : Schedule} {es : List Entry} (v : Time) (sps : Nat) (outcomes : List (Nat × Ending)) (h : ScheduleInv c)
    (hes : ∀ e ∈ es, e ∈ c.queue) : ScheduleInv { c with queue := es.foldl (endTurn v sps outcomes) c.queue } := by
  have hfold : ∀ (es : List Entry) (q : List Entry), q.Pairwise (fun a b => a.due.toNat ≤ b.due.toNat) →
      (entryKeys q).Perm (entryKeys c.queue) → (∀ e ∈ es, e ∈ c.queue) →
      (es.foldl (endTurn v sps outcomes) q).Pairwise (fun a b => a.due.toNat ≤ b.due.toNat)
        ∧ (entryKeys (es.foldl (endTurn v sps outcomes) q)).Perm (entryKeys c.queue) := by
    intro es
    induction es with
    | nil => exact fun q hs hk _ => ⟨hs, hk⟩
    | cons e es ih =>
      intro q hs hk hmem
      have he : (e.id, e.orderId) ∈ entryKeys q := hk.mem_iff.mpr (List.mem_map_of_mem (hmem e List.mem_cons_self))
      obtain ⟨hs', hk'⟩ := endTurn_keeps v sps outcomes (nodup_ids_of_entryKeys h hk) hs he
      exact ih _ hs' (hk'.trans hk) fun x hx => hmem x (List.mem_cons_of_mem e hx)
  obtain ⟨hs, hk⟩ := hfold es c.queue h.2.1 (.refl _) hes
  exact scheduleInv_of_entryKeys h hs hk

/-! ## Release -/

theorem mem_spend {o : Option OrderId} {l : List OrderId} {x : OrderId} (h : x ∈ spend o l) : o = some x ∨ x ∈ l := by
  unfold spend at h
  split at h
  · exact .inr h
  · rcases List.mem_append.mp (List.mem_of_mem_drop h) with hl | hr
    · exact .inr hl
    · exact .inl (congrArg some (List.mem_singleton.mp hr).symm)

theorem length_spend {o : Option OrderId} {l : List OrderId} (h : l.length ≤ 16) : (spend o l).length ≤ 16 := by
  unfold spend
  split
  · exact h
  · rw [List.length_drop, List.length_append, List.length_singleton, Config.spentOrders]
    omega

theorem nodup_spend {o : Option OrderId} {l : List OrderId} (h : l.Nodup) (ho : ∀ x, o = some x → x ∉ l) : (spend o l).Nodup := by
  unfold spend
  split
  · exact h
  · rename_i x
    refine (List.Nodup.sublist (List.drop_sublist _ _)) (List.nodup_append.mpr ⟨h, List.nodup_singleton _, ?_⟩)
    rintro a ha b hb rfl
    exact ho x rfl (List.mem_singleton.mp hb ▸ ha)

theorem scheduleInv_releaseItem {c : Schedule} (q : SeqNo) (i : ActionItem) (h : ScheduleInv c) : ScheduleInv (releaseItem q c i) := by
  unfold releaseItem
  split
  · exact h
  · rename_i e hfind
    obtain ⟨hlen, hsorted, hids, horders, hspent, hnodup, hapart, hrange, hnext⟩ := h
    have he : e ∈ c.queue := List.mem_of_find?_eq_some hfind
    have hsub : (c.queue.filter (fun x => x.id ≠ e.id)).Sublist c.queue := List.filter_sublist
    have hheld : ∀ x, e.orderId = some x → x ∈ c.queue.filterMap Entry.orderId := fun x hx => List.mem_filterMap.mpr ⟨e, he, hx⟩
    have hleft : ∀ x, e.orderId = some x → x ∉ (c.queue.filter (fun x => x.id ≠ e.id)).filterMap Entry.orderId := by
      intro x hx
      have hperm := ((perm_cons_filter_id hids he).filterMap Entry.orderId).nodup_iff.mp horders
      rw [List.filterMap_cons_some hx] at hperm
      exact (List.nodup_cons.mp hperm).1
    refine ⟨hsub.length_le.trans hlen, hsorted.sublist hsub, hids.sublist (hsub.map _), horders.sublist (hsub.filterMap _), length_spend hspent,
      nodup_spend hnodup fun x hx hmem => hapart x hmem (hheld x hx), fun x hx hmem => ?_, fun x hx => hrange x (hsub.mem hx), hnext⟩
    rcases mem_spend hx with ho | hold
    · exact hleft x ho hmem
    · exact hapart x hold ((hsub.filterMap _).mem hmem)

theorem scheduleInv_releaseNotice {c : Schedule} (n : SentNotice) (h : ScheduleInv c) : ScheduleInv (releaseNotice c n) := by
  unfold releaseNotice
  split
  · rename_i items _
    exact List.foldlRecOn items (releaseItem n.seq) h fun c hc i _ => scheduleInv_releaseItem n.seq i hc
  · exact h

theorem scheduleInv_release {c : Schedule} (gone : List SentNotice) (h : ScheduleInv c) : ScheduleInv (gone.foldl releaseNotice c) :=
  List.foldlRecOn gone releaseNotice h fun _ hc n _ => scheduleInv_releaseNotice n hc

theorem scheduleInv_reset : ScheduleInv Schedule.reset := by
  refine ⟨by decide, .nil, .nil, .nil, by decide, .nil, nofun, nofun, by decide, by decide⟩

end Sys2Proof.Machine
end

section
/-! SUPPORT. The pulse outputs and one link: what each operation keeps of their invariants (Table 7-3; R24, R26, R29). -/

namespace Sys2Proof.Machine

/-! ## Pulse outputs -/

/-- No width is left on an inactive output. -/
def PulseRests (q : Pulse) : Prop := q.active = false → q.width = 0

/-- The same of each of the four (the last clause of `LineInv`). -/
def PulsesRest (v : Per4 Pulse) : Prop := ∀ o, PulseRests (v.get o)

theorem pulseRests_idlePulse (q : Pulse) : PulseRests (idlePulse q) := fun _ => rfl

theorem pulseRests_endWidth {q : Pulse} (h : PulseRests q) : PulseRests (endWidth q) := by
  unfold endWidth
  split
  · rename_i hend
    exact fun _ => hend.2
  · exact h

theorem pulseRests_stepPulse {q : Pulse} (h : PulseRests q) : PulseRests (stepPulse q) := by
  unfold stepPulse
  split
  · rename_i hactive
    exact pulseRests_endWidth fun hq => absurd (hactive.symm.trans hq) (by decide)
  · exact h

theorem pulsesRest_map {f : Pulse → Pulse} {v : Per4 Pulse} (h : ∀ q, PulseRests q → PulseRests (f q)) (hv : PulsesRest v) :
    PulsesRest (v.map f) := fun o => by
  rw [Per4.get_map]
  exact h _ (hv o)

theorem pulsesRest_set {v : Per4 Pulse} {q : Pulse} (o : OutputNo) (hq : PulseRests q) (hv : PulsesRest v) : PulsesRest (v.set o q) := fun m => by
  by_cases hm : m = o
  · subst hm
    rwa [Per4.get_set_self]
  · rw [Per4.get_set_ne _ _ hm]
    exact hv m

theorem get_setPolarities (p : Per4 Polarity) (v : Per4 Pulse) (o : OutputNo) :
    (setPolarities p v).get o = { v.get o with polarity := p.get o } := by
  fin_cases o <;> rfl

theorem pulsesRest_setPolarities (p : Per4 Polarity) {v : Per4 Pulse} (hv : PulsesRest v) : PulsesRest (setPolarities p v) := fun o => by
  rw [get_setPolarities]
  exact hv o

/-! ## One link -/

theorem EndsWithSync.tail {m : Mark} {ms : List Mark} (h : EndsWithSync (m :: ms)) : EndsWithSync ms := by
  obtain h | ⟨before, x, h, hx⟩ := h
  · cases h
  · cases before with
    | nil => exact .inl (List.cons.inj h).2
    | cons y ys => exact .inr ⟨ys, x, (List.cons.inj h).2, hx⟩

theorem endsWithSync_untilLastSync (ms : List Mark) : EndsWithSync (untilLastSync ms) := by
  induction ms with
  | nil => exact .inl rfl
  | cons m ms ih =>
    rw [untilLastSync]
    split
    · exact .inl rfl
    · rename_i hkeep
      right
      obtain hnil | ⟨before, x, heq, hx⟩ := ih
      · exact ⟨[], m, by rw [hnil, List.nil_append], fun hplain => hkeep ⟨hnil, hplain⟩⟩
      · exact ⟨m :: before, x, by rw [heq, List.cons_append], hx⟩

section
variable {u : LinkUnit}

/-- The invariant of a link says nothing of its qualifier and its settings. -/
theorem linkInv_congr {v : LinkUnit} (h : LinkInv u) (hdir : v.dir = u.dir) (hrx : v.rx = u.rx) (hpair : v.pair = u.pair) : LinkInv v := by
  unfold LinkInv at h ⊢
  rwa [hdir, hrx, hpair]

theorem linkInv_rx_of_receive {rx : Receiver} (h : LinkInv u) (hdir : u.dir = .receive) : LinkInv { u with rx := rx } :=
  ⟨fun hnot => absurd hdir hnot, h.2⟩

theorem linkInv_clearRecords (h : LinkInv u) : LinkInv { u with rx := clearRecords u.rx } :=
  ⟨fun hnot => by rw [h.1 hnot]; rfl, h.2⟩

theorem linkInv_pairNext (h : LinkInv u) : LinkInv { u with pair := pairNext u.pair } := by
  obtain ⟨hrx, hwaiting, hbusy, hmark⟩ := h
  unfold pairNext
  split
  · exact ⟨hrx, hwaiting, hbusy, hmark⟩
  · rename_i m ms hms
    exact ⟨hrx, fun hdir => (hms ▸ hwaiting hdir).tail, by simp [Config.markTicks], by simp [Config.markTicks]⟩

theorem linkInv_sentOn (m : Mark) (h : LinkInv u) : LinkInv (sentOn m u) := by
  obtain ⟨hrx, hwaiting, hbusy, hmark⟩ := h
  unfold sentOn pairSend
  split
  · rename_i hsend
    split
    · exact ⟨hrx, fun hnot => absurd hsend hnot, by simp [Config.markTicks], by simp [Config.markTicks]⟩
    · exact ⟨hrx, fun hnot => absurd hsend hnot, hbusy, hmark⟩
  · exact ⟨hrx, hwaiting, hbusy, hmark⟩

theorem linkInv_tickLink (h : LinkInv u) : LinkInv (tickLink u) := by
  obtain ⟨hrx, hwaiting, hbusy, hmark⟩ := h
  refine ⟨hrx, hwaiting, by dsimp only [tickLink, tickPair]; omega, ?_⟩
  dsimp only [tickLink, tickPair]
  split
  · exact ⟨fun _ => by omega, fun _ => rfl⟩
  · rw [hmark]
    omega

theorem linkInv_turnOff (h : LinkInv u) : LinkInv (turnOff u) :=
  ⟨fun _ => rfl, fun _ => endsWithSync_untilLastSync _, h.2.2⟩

theorem linkInv_directedLink (sps : Nat) (d : Direction) (h : LinkInv u) : LinkInv (directedLink sps d u) := by
  unfold directedLink
  split
  · unfold keepReceiving
    split
    · exact linkInv_congr h rfl rfl rfl
    · exact h
  · unfold enteredLink
    split
    · exact ⟨fun _ => rfl, fun _ => endsWithSync_untilLastSync _, h.2.2⟩
    · exact ⟨fun _ => rfl, fun _ => endsWithSync_untilLastSync _, h.2.2⟩

theorem linkInv_dropped (h : LinkInv u) : LinkInv { u with pair := { u.pair with waiting := [] } } :=
  ⟨h.1, fun _ => .inl rfl, h.2.2⟩

theorem linkInv_reset : LinkInv LinkUnit.reset :=
  ⟨fun _ => rfl, fun _ => .inl rfl, Nat.zero_le _, ⟨fun _ => rfl, fun _ => rfl⟩⟩

theorem linkInv_restartedLink (u : LinkUnit) : LinkInv (restartedLink u) := linkInv_congr linkInv_reset rfl rfl rfl

end

end Sys2Proof.Machine
end

section
/-! SUPPORT. What the timing functions keep whatever the core does: the invariants of the notice unit, the schedule, the pulse outputs and the links. One lemma for each
shared operation, in the order of `SameEnvironment`. -/

namespace Sys2Proof.Machine

/-- The invariants of the notice unit, the schedule, the pulse outputs and the links pass from one state to the other. -/
structure KeepsBlocks (s t : State) : Prop where
  notices : NoticeInv s.notices → NoticeInv t.notices
  sched : ScheduleInv s.sched → ScheduleInv t.sched
  pulses : PulsesRest s.pulses → PulsesRest t.pulses
  links : (∀ l, LinkInv (link l s)) → ∀ l, LinkInv (link l t)

namespace KeepsBlocks

theorem refl (s : State) : KeepsBlocks s s := ⟨id, id, id, id⟩

theorem trans {s t u : State} (h : KeepsBlocks s t) (k : KeepsBlocks t u) : KeepsBlocks s u :=
  ⟨fun x => k.notices (h.notices x), fun x => k.sched (h.sched x), fun x => k.pulses (h.pulses x), fun x => k.links (h.links x)⟩

theorem foldl {α : Type} {f : State → α → State} (h : ∀ s x, KeepsBlocks s (f s x)) (l : List α) (s : State) : KeepsBlocks s (l.foldl f s) := by
  induction l generalizing s with
  | nil => exact .refl s
  | cons x xs ih => exact (h s x).trans (ih _)

/-- A write of other blocks keeps all four. -/
theorem of_eq {s t : State} (hn : t.notices = s.notices) (hs : t.sched = s.sched) (hp : t.pulses = s.pulses) (hl : t.links = s.links) :
    KeepsBlocks s t :=
  ⟨fun h => hn ▸ h, fun h => hs ▸ h, fun h => hp ▸ h, fun h l => by rw [link_congr hl]; exact h l⟩

/-- A raise, whatever other blocks are written with it. -/
theorem of_raised {s t : State} (n : Notice) (hn : t.notices = raised n s.notices) (hs : t.sched = s.sched) (hp : t.pulses = s.pulses)
    (hl : t.links = s.links) : KeepsBlocks s t :=
  ⟨fun h => hn ▸ noticeInv_raised n h, fun h => hs ▸ h, fun h => hp ▸ h, fun h l => by rw [link_congr hl]; exact h l⟩

/-- The links written, each keeping its invariant. -/
theorem of_links {s t : State} (hn : t.notices = s.notices) (hs : t.sched = s.sched) (hp : t.pulses = s.pulses)
    (hl : ∀ l, LinkInv (link l s) → LinkInv (link l t)) : KeepsBlocks s t :=
  ⟨fun h => hn ▸ h, fun h => hs ▸ h, fun h => hp ▸ h, fun h l => hl l (h l)⟩

end KeepsBlocks

theorem keepsBlocks_setCore (c : Core) (s : State) : KeepsBlocks s (setCore c s) := .of_eq rfl rfl rfl rfl
theorem keepsBlocks_raise (n : Notice) (s : State) : KeepsBlocks s (raise n s) := .of_raised n rfl rfl rfl rfl
theorem keepsBlocks_raiseFault (c : FaultCause) (s : State) : KeepsBlocks s (raiseFault c s) := keepsBlocks_raise _ s
theorem keepsBlocks_raiseTime (p : CoreState) (j : Option Time) (s : State) : KeepsBlocks s (raiseTime p j s) := keepsBlocks_raise _ s
theorem keepsBlocks_raiseLink (l : LinkNo) (p : QualState) (c : LinkCause) (s : State) : KeepsBlocks s (raiseLink l p c s) := keepsBlocks_raise _ s
theorem keepsBlocks_raisePlan (p : Option PlanNo) (c : PlanCause) (i : SyncIndex) (s : State) : KeepsBlocks s (raisePlan p c i s) :=
  keepsBlocks_raise _ s
theorem keepsBlocks_raiseItem (e : Entry) (o : Ending) (s : State) : KeepsBlocks s (raiseItem e o s) := keepsBlocks_raise _ s

theorem keepsBlocks_setLink {l : LinkNo} {u : LinkUnit} (s : State) (h : LinkInv (link l s) → LinkInv u) : KeepsBlocks s (setLink l u s) :=
  .of_links rfl rfl rfl fun m hm => by
    rw [link_setLink]
    split
    · rename_i heq
      exact h (heq ▸ hm)
    · exact hm

theorem keepsBlocks_setQual (l : LinkNo) (q : Qualifier) (s : State) : KeepsBlocks s (setQual l q s) :=
  keepsBlocks_setLink s fun h => linkInv_congr h rfl rfl rfl

theorem keepsBlocks_setRx {l : LinkNo} {s : State} (rx : Receiver) (hdir : (link l s).dir = .receive) : KeepsBlocks s (setRx l rx s) :=
  keepsBlocks_setLink s fun h => linkInv_rx_of_receive h hdir

theorem keepsBlocks_pulses {v : Per4 Pulse} (s : State) (h : PulsesRest s.pulses → PulsesRest v) : KeepsBlocks s { s with pulses := v } :=
  ⟨id, id, h, id⟩

theorem keepsBlocks_sched {c : Schedule} (s : State) (h : ScheduleInv s.sched → ScheduleInv c) : KeepsBlocks s { s with sched := c } :=
  ⟨id, h, id, id⟩

theorem keepsBlocks_forcePulses (s : State) : KeepsBlocks s (forcePulses s) := keepsBlocks_pulses s (pulsesRest_map fun q _ => pulseRests_idlePulse q)
theorem keepsBlocks_countPulses (s : State) : KeepsBlocks s (countPulses s) := keepsBlocks_pulses s (pulsesRest_map fun _ => pulseRests_stepPulse)
theorem keepsBlocks_startPulse (o : OutputNo) (w : Nat) (s : State) : KeepsBlocks s (startPulse o w s) :=
  keepsBlocks_pulses s (pulsesRest_set o nofun)

theorem keepsBlocks_emit (m : Mark) (s : State) : KeepsBlocks s (emit m s) := by
  refine .of_links ?_ ?_ ?_ fun l h => ?_
  iterate 3 unfold emit; split <;> rfl
  rw [link_emit]
  split
  · exact linkInv_sentOn m h
  · exact h

/-! ## Selection, links, plans -/

theorem keepsBlocks_select (p : Plan) (new : Option LinkNo) (s : State) : KeepsBlocks s (select p new s) := .of_raised _ rfl rfl rfl rfl

theorem keepsBlocks_reevaluate (s : State) : KeepsBlocks s (reevaluate s) := by
  unfold reevaluate
  split
  · exact .refl s
  · split
    · exact .refl s
    · exact keepsBlocks_select _ _ s

theorem keepsBlocks_changeQual (l : LinkNo) (q : Qualifier) (c : LinkCause) (s : State) : KeepsBlocks s (changeQual l q c s) := by
  have h : KeepsBlocks s (raiseLink l (link l s).qual.state c (reevaluate (setQual l q s))) :=
    ((keepsBlocks_setQual l q s).trans (keepsBlocks_reevaluate _)).trans (keepsBlocks_raiseLink l _ c _)
  unfold changeQual
  split
  · exact h.trans (keepsBlocks_setLink _ linkInv_clearRecords)
  · exact h

theorem keepsBlocks_failLink (l : LinkNo) (q : Qualifier) (c : LinkCause) (s : State) : KeepsBlocks s (failLink l q c s) := by
  unfold failLink
  dsimp only
  split
  · exact (keepsBlocks_changeQual l _ c s).trans (keepsBlocks_changeQual l _ _ _)
  · exact keepsBlocks_changeQual l _ c s

/-- A change of links and notices by raises alone, each link keeping its invariant. -/
theorem keepsBlocks_of_linksAndNotices {s t : State} (h : LinksAndNotices s t) (hn : NoticeInv s.notices → NoticeInv t.notices)
    (hl : ∀ l, LinkInv (link l s) → LinkInv (link l t)) : KeepsBlocks s t := by
  obtain ⟨k, n, rfl⟩ := h
  exact ⟨hn, id, id, fun h l => hl l (h l)⟩

theorem noticeInv_leaveDirection (l : LinkNo) {s : State} (h : NoticeInv s.notices) : NoticeInv (leaveDirection l s).notices := by
  unfold leaveDirection
  dsimp only
  split
  · exact noticeInv_raised _ h
  · exact h

theorem noticeInv_enterDirection (l : LinkNo) (d : Direction) {s : State} (h : NoticeInv s.notices) : NoticeInv (enterDirection l d s).notices := by
  unfold enterDirection
  dsimp only
  split
  · exact noticeInv_raised _ h
  · exact h

theorem keepsBlocks_leaveDirection (l : LinkNo) (s : State) : KeepsBlocks s (leaveDirection l s) := by
  refine keepsBlocks_of_linksAndNotices (linksAndNotices_leaveDirection l s) (noticeInv_leaveDirection l) fun m h => ?_
  rw [link_leaveDirection]
  split
  · rename_i hm
    exact linkInv_turnOff (hm ▸ h)
  · exact h

theorem keepsBlocks_setDirection (sps : Nat) (l : LinkNo) (d : Direction) (s : State) : KeepsBlocks s (setDirection sps l d s) := by
  refine keepsBlocks_of_linksAndNotices (linksAndNotices_setDirection sps l d s) (fun h => ?_) fun m h => ?_
  · unfold setDirection
    split
    · exact h
    · exact noticeInv_enterDirection l d (noticeInv_leaveDirection l h)
  · rw [link_setDirection]
    split
    · rename_i hm
      exact linkInv_directedLink sps d (hm ▸ h)
    · exact h

theorem keepsBlocks_setDirections (p : Plan) (s : State) : KeepsBlocks s (setDirections p s) :=
  .foldl (fun s l => keepsBlocks_setDirection p.sps l (p.dirs.get l) s) allLinks s

theorem keepsBlocks_dropWaiting (s : State) : KeepsBlocks s (dropWaiting s) :=
  .of_links rfl rfl rfl fun l h => by
    rw [link_dropWaiting]
    exact linkInv_dropped h

theorem keepsBlocks_allOff (s : State) : KeepsBlocks s (allOff s) := by
  refine .trans (.foldl (fun s l => ?_) allLinks s) (keepsBlocks_dropWaiting _)
  split
  · exact .refl s
  · exact keepsBlocks_leaveDirection l s

theorem keepsBlocks_corePlanChange (p : Plan) (st : CoreState) (s : State) : KeepsBlocks s (corePlanChange p st s) := by
  unfold corePlanChange
  dsimp only
  split
  · exact (keepsBlocks_setCore _ s).trans (keepsBlocks_raiseTime _ _ _)
  · exact keepsBlocks_setCore _ s

theorem keepsBlocks_setPlans (q : PlanTable) (s : State) : KeepsBlocks s { s with plans := q } := .of_eq rfl rfl rfl rfl

theorem keepsBlocks_switchTo (t : PlanNo) (p : Plan) (s : State) : KeepsBlocks s (switchTo t p s) :=
  (((keepsBlocks_setPlans _ s).trans (keepsBlocks_setDirections p _)).trans (keepsBlocks_reevaluate _)).trans (keepsBlocks_corePlanChange p _ _)

theorem keepsBlocks_failover (s : State) : KeepsBlocks s (failover s) := by
  unfold failover
  split
  · exact .refl s
  · split
    · exact .refl s
    · exact ((keepsBlocks_switchTo _ _ s).trans (keepsBlocks_setCore _ _)).trans (keepsBlocks_raisePlan _ _ _ _)

theorem keepsBlocks_considerFailover (c : CoreState) (s : State) : KeepsBlocks s (considerFailover c s) := by
  unfold considerFailover
  split
  · exact .refl s
  · split
    · exact keepsBlocks_failover s
    · exact .refl s

theorem keepsBlocks_failoverController (c : CoreState) (s : State) : KeepsBlocks s (failoverController c s) := by
  have h : KeepsBlocks s { s with plans := { s.plans with held := none } } := keepsBlocks_setPlans _ s
  unfold failoverController
  dsimp only
  split
  · exact h.trans (keepsBlocks_considerFailover c _)
  · split
    · exact h.trans (keepsBlocks_considerFailover c _)
    · split
      · exact h.trans (keepsBlocks_considerFailover c _)
      · exact (h.trans (keepsBlocks_switchTo _ _ _)).trans (keepsBlocks_raisePlan _ _ _ _)

/-! ## The schedule -/

theorem keepsBlocks_applyEntry (acc : Firing × State) (e : Entry) : KeepsBlocks acc.2 (applyEntry acc e).2 := by
  unfold applyEntry
  dsimp only
  split
  · exact keepsBlocks_setCore _ _
  · split
    · exact .refl _
    · exact keepsBlocks_setPlans _ _
  · exact keepsBlocks_startPulse _ _ _

theorem keepsBlocks_applyEntries (es : List Entry) (acc : Firing × State) : KeepsBlocks acc.2 (es.foldl applyEntry acc).2 := by
  induction es generalizing acc with
  | nil => exact .refl _
  | cons e es ih => exact (keepsBlocks_applyEntry acc e).trans (ih _)

theorem applyEntry_sched (acc : Firing × State) (e : Entry) : (applyEntry acc e).2.sched = acc.2.sched := by
  unfold applyEntry
  dsimp only
  split
  · rfl
  · split <;> rfl
  · rfl

theorem applyEntries_sched (es : List Entry) (acc : Firing × State) : (es.foldl applyEntry acc).2.sched = acc.2.sched := by
  induction es generalizing acc with
  | nil => rfl
  | cons e es ih => exact (ih _).trans (applyEntry_sched acc e)

theorem reportLoads_sched (v : Time) (b : Bool) (s : State) : (reportLoads v b s).sched = s.sched := by
  unfold reportLoads
  split
  · rfl
  · dsimp only
    split <;> rfl

theorem keepsBlocks_reportLoads (v : Time) (b : Bool) (s : State) : KeepsBlocks s (reportLoads v b s) := by
  unfold reportLoads
  split
  · exact .refl s
  · dsimp only
    split
    · exact (keepsBlocks_setCore _ s).trans (keepsBlocks_raiseTime _ _ _)
    · exact keepsBlocks_raiseTime _ _ s

theorem keepsBlocks_reportFiring (o : List (Nat × Ending)) (es : List Entry) (s : State) : KeepsBlocks s (reportFiring o es s) :=
  .foldl (fun s e => by
    split
    · exact keepsBlocks_raiseItem _ _ s
    · exact .refl s) es s

theorem keepsBlocks_fire (v : Time) (r : SyncRecord) (sps : Nat) (s : State) : KeepsBlocks s (fire v r sps s) := by
  unfold fire
  extract_lets es start out outcomes s1 queue s2
  have h1 : KeepsBlocks s s1 := (keepsBlocks_applyEntries es (start, s)).trans (keepsBlocks_reportLoads v out.1.localLoad out.2)
  have hqueue : s1.sched.queue = s.sched.queue := congrArg Schedule.queue
    ((reportLoads_sched v out.1.localLoad out.2).trans (applyEntries_sched es (start, s)))
  have h2 : KeepsBlocks s1 s2 := keepsBlocks_sched s1 fun h => scheduleInv_endTurns v sps outcomes h fun e he => by
    rw [hqueue]
    exact List.mem_of_mem_filter he
  exact (h1.trans h2).trans (keepsBlocks_reportFiring outcomes es s2)

theorem keepsBlocks_flush (s : State) : KeepsBlocks s (flush s) := by
  unfold flush
  dsimp only
  refine .trans (keepsBlocks_sched s fun h => ?_) (.foldl (fun s e => keepsBlocks_raiseItem e .flushed s) _ _)
  exact scheduleInv_map h (fun e => by split <;> rfl) (fun e => by split <;> rfl) (fun e => by split <;> rfl)

theorem keepsBlocks_receiveOrder (l : LinkNo) (o : Order) (s : State) : KeepsBlocks s (receiveOrder l o s) := by
  unfold receiveOrder
  split
  · exact .refl s
  · rename_i hnew
    split
    · exact keepsBlocks_raiseFault _ s
    · split
      · exact keepsBlocks_raiseFault _ s
      · rename_i hroom
        refine keepsBlocks_sched s fun h => scheduleInv_insertAction _ _ _ _ h hroom fun id hid => ?_
        rwa [← Option.some.inj hid]

/-! ## Counted steps -/

theorem keepsBlocks_compose (s : State) : KeepsBlocks s (compose s) := by
  unfold compose
  split
  · exact ⟨id, scheduleInv_spendOffers, id, id⟩
  · exact .refl s

theorem keepsBlocks_composeIfDue (s : State) : KeepsBlocks s (composeIfDue s) := by
  unfold composeIfDue
  split
  · exact keepsBlocks_compose s
  · exact .refl s

theorem keepsBlocks_countPlain (s : State) : KeepsBlocks s (countPlain s) := by
  unfold countPlain
  exact (((keepsBlocks_composeIfDue s).trans (keepsBlocks_setCore _ _)).trans (keepsBlocks_countPulses _)).trans (keepsBlocks_emit _ _)

theorem keepsBlocks_takeJump (v : Time) (s : State) : KeepsBlocks s (takeJump v s) := (keepsBlocks_setCore _ s).trans (keepsBlocks_raiseTime _ _ _)

theorem keepsBlocks_timeCheck (p : Plan) (v : Time) (s : State) : KeepsBlocks s (timeCheck p v s) := by
  unfold timeCheck
  split
  · exact .refl s
  · split
    · exact keepsBlocks_raiseFault _ s
    · exact keepsBlocks_takeJump v s

theorem keepsBlocks_realign (e : Option Time) (s : State) : KeepsBlocks s (realign e s) := by
  unfold realign
  split
  · exact keepsBlocks_setCore _ s
  · dsimp only
    split
    · exact keepsBlocks_setCore _ s
    · exact (keepsBlocks_setCore _ s).trans (keepsBlocks_takeJump _ _)

theorem keepsBlocks_join (l : LinkNo) (v : Time) (s : State) : KeepsBlocks s (join l v s) := .of_eq rfl rfl rfl rfl

theorem keepsBlocks_correct (p : Plan) (c : SyncCause) (s : State) : KeepsBlocks s (correct p c s) := by
  unfold correct
  split
  · exact .refl s
  · split
    · exact keepsBlocks_join _ _ s
    · exact .refl s
  · split
    · exact keepsBlocks_realign _ s
    · split
      · exact keepsBlocks_timeCheck p _ s
      · exact .refl s

theorem keepsBlocks_expireHoldover (p : Plan) (s : State) : KeepsBlocks s (expireHoldover p s) := by
  unfold expireHoldover
  split
  · exact ((keepsBlocks_setCore _ s).trans (keepsBlocks_raiseFault _ _)).trans (keepsBlocks_raiseTime _ _ _)
  · exact .refl s

theorem keepsBlocks_boundary (p : Plan) (s : State) : KeepsBlocks s (boundary p s) := by
  unfold boundary
  dsimp only
  split
  · exact (keepsBlocks_setCore _ s).trans (keepsBlocks_expireHoldover p _)
  · exact keepsBlocks_setCore _ s

theorem keepsBlocks_recordFinal (s : State) : KeepsBlocks s (recordFinal s) := .of_eq rfl rfl rfl rfl

theorem keepsBlocks_reportJoin (c : SyncCause) (p : CoreState) (a b : Time) (s : State) : KeepsBlocks s (reportJoin c p a b s) := by
  unfold reportJoin
  split
  · exact keepsBlocks_raiseTime _ _ s
  · exact .refl s
  · exact .refl s

theorem keepsBlocks_beginSync (s : State) : KeepsBlocks s (beginSync s) := (keepsBlocks_setCore _ s).trans (keepsBlocks_countPulses _)

theorem keepsBlocks_takeSync (p : Plan) (c : SyncCause) (s : State) : KeepsBlocks s (takeSync p c s) := by
  unfold takeSync
  dsimp only
  refine .trans ?_ (keepsBlocks_setCore _ _)
  refine .trans ?_ (keepsBlocks_failoverController _ _)
  refine .trans ?_ (keepsBlocks_reportJoin _ _ _ _ _)
  refine .trans ?_ (keepsBlocks_emit _ _)
  refine .trans ?_ (keepsBlocks_recordFinal _)
  refine .trans ?_ (keepsBlocks_fire _ _ _ _)
  refine .trans ?_ (keepsBlocks_boundary _ _)
  refine .trans ?_ (keepsBlocks_correct _ _ _)
  exact (keepsBlocks_composeIfDue s).trans (keepsBlocks_beginSync _)

theorem keepsBlocks_countGenerated (p : Plan) (s : State) : KeepsBlocks s (countGenerated p s) := by
  unfold countGenerated
  dsimp only
  split
  · exact (keepsBlocks_setCore _ s).trans (keepsBlocks_takeSync p _ _)
  · exact (keepsBlocks_setCore _ s).trans (keepsBlocks_countPlain _)

theorem keepsBlocks_keepPassing (s : State) : KeepsBlocks s (keepPassing s) := .of_eq rfl rfl rfl rfl

theorem keepsBlocks_countWhile (due : Core → Bool) (k : Nat) (b : Bool) (s : State) : KeepsBlocks s (countWhile due k b s) := by
  induction k generalizing b s with
  | zero => exact .refl s
  | succ k ih =>
    unfold countWhile
    split
    · exact .refl s
    · split
      · refine .trans ?_ (ih _ _)
        refine .trans ?_ (keepsBlocks_countGenerated _ _)
        split
        · exact keepsBlocks_keepPassing s
        · exact .refl s
      · exact .refl s

theorem keepsBlocks_runGenerator (b : Bool) (s : State) : KeepsBlocks s (runGenerator b s) := keepsBlocks_countWhile _ _ _ s

theorem keepsBlocks_catchUp (n : Bool) (b s : State) : KeepsBlocks s (catchUp n b s) := by
  unfold catchUp
  split
  · exact keepsBlocks_runGenerator _ s
  · exact .refl s

theorem keepsBlocks_catchUpPassed (b s : State) : KeepsBlocks s (catchUpPassed b s) := by
  unfold catchUpPassed
  split
  · exact keepsBlocks_countWhile _ _ _ s
  · exact .refl s

theorem keepsBlocks_countMark (p : Plan) (l : LinkNo) (k : MarkKind) (m : Option (Nat × Bool)) (s : State) : KeepsBlocks s (countMark p l k m s) := by
  unfold countMark
  dsimp only
  split
  · exact (keepsBlocks_setCore _ s).trans (keepsBlocks_countPlain _)
  · exact (keepsBlocks_setCore _ s).trans (keepsBlocks_takeSync p _ _)
  · exact (keepsBlocks_setCore _ s).trans (keepsBlocks_takeSync p _ _)

theorem keepsBlocks_followPosition (k : MarkKind) (s : State) : KeepsBlocks s (followPosition k s) := by
  unfold followPosition
  split
  · exact keepsBlocks_setCore _ s
  · exact .refl s

theorem keepsBlocks_coreMark (p : Plan) (l : LinkNo) (k : MarkKind) (m : Option (Nat × Bool)) (s : State) : KeepsBlocks s (coreMark p l k m s) := by
  unfold coreMark
  split
  · exact .refl s
  · split
    · exact keepsBlocks_countMark p l k m s
    · split
      · exact (keepsBlocks_setCore _ s).trans (keepsBlocks_takeSync p _ _)
      · exact keepsBlocks_followPosition k s

theorem keepsBlocks_assertHalt (s : State) : KeepsBlocks s (assertHalt s) := by
  unfold assertHalt
  split
  · exact .refl s
  · exact .refl s
  · exact ((keepsBlocks_setCore _ s).trans (keepsBlocks_forcePulses _)).trans (keepsBlocks_raiseTime _ _ _)

theorem keepsBlocks_releaseHalt (s : State) : KeepsBlocks s (releaseHalt s) := by
  unfold releaseHalt
  split
  · exact (keepsBlocks_setCore _ s).trans (keepsBlocks_raiseTime _ _ _)
  · exact .refl s

theorem keepsBlocks_setHalt (h : Halt) (s : State) : KeepsBlocks s { s with halt := h } := .of_eq rfl rfl rfl rfl

/-- A new halt policy is recorded; a change of it is an assertion under HALTN low, a release, or nothing more (R159). -/
theorem haltPolicy_cases (new : HaltPolicy) (s : State) :
    haltPolicy new s = { s with halt := { s.halt with policy := new } }
    ∨ haltPolicy new s = assertHalt { s with halt := { s.halt with policy := new } }
    ∨ haltPolicy new s = releaseHalt { s with halt := { s.halt with policy := new } } := by
  unfold haltPolicy
  dsimp only
  split
  · exact .inl rfl
  · split
    · split
      · exact .inr (.inl rfl)
      · exact .inl rfl
    · exact .inr (.inr rfl)

theorem keepsBlocks_haltPolicy (new : HaltPolicy) (s : State) : KeepsBlocks s (haltPolicy new s) := by
  have h : KeepsBlocks s { s with halt := { s.halt with policy := new } } := keepsBlocks_setHalt _ s
  obtain heq | heq | heq := haltPolicy_cases new s <;> rw [heq]
  · exact h
  · exact h.trans (keepsBlocks_assertHalt _)
  · exact h.trans (keepsBlocks_releaseHalt _)

/-! ## Receiving -/

theorem keepsBlocks_onGood (p : Plan) (l : LinkNo) (q : Qualifier) (s : State) : KeepsBlocks s (onGood p l q s) := by
  unfold onGood
  dsimp only
  split
  · split
    · exact keepsBlocks_changeQual l _ _ s
    · exact keepsBlocks_setQual l _ s
  · split
    · exact keepsBlocks_changeQual l _ _ s
    · exact keepsBlocks_setQual l _ s
  all_goals exact keepsBlocks_setQual l _ s

theorem keepsBlocks_onBad (p : Plan) (l : LinkNo) (c : LinkCause) (q : Qualifier) (s : State) : KeepsBlocks s (onBad p l c q s) := by
  unfold onBad
  dsimp only
  split
  · exact keepsBlocks_changeQual l _ _ s
  · split
    · exact keepsBlocks_failLink l _ _ s
    · exact keepsBlocks_setQual l _ s
  all_goals exact keepsBlocks_setQual l _ s

theorem keepsBlocks_qualifyMark (p : Plan) (l : LinkNo) (k : MarkKind) (s : State) : KeepsBlocks s (qualifyMark p l k s) := by
  unfold qualifyMark
  dsimp only
  split
  · exact .refl s
  · exact .refl s
  · exact keepsBlocks_changeQual l _ _ s
  all_goals
    split
    · exact keepsBlocks_onGood p l _ s
    · exact keepsBlocks_onBad p l _ _ s

theorem keepsBlocks_coreQuality (l : LinkNo) (s : State) : KeepsBlocks s (coreQuality l s) := by
  unfold coreQuality
  split
  · dsimp only
    split
    · exact keepsBlocks_setCore _ s
    · exact (keepsBlocks_setCore _ s).trans (keepsBlocks_raiseTime _ _ _)
  · exact .refl s

section
variable {l : LinkNo} {s : State} (hdir : (link l s).dir = .receive)
include hdir

theorem keepsBlocks_updateRx (rx : Receiver) : KeepsBlocks s (updateRx l rx s) := by
  unfold updateRx
  dsimp only
  split
  · exact ((keepsBlocks_setRx rx hdir).trans (keepsBlocks_reevaluate _)).trans (keepsBlocks_coreQuality l _)
  · exact keepsBlocks_setRx rx hdir

theorem keepsBlocks_acceptMessage (m : LinkMessage) : KeepsBlocks s (acceptMessage l m s) := by
  unfold acceptMessage
  dsimp only
  split
  · exact keepsBlocks_setLink s fun h => linkInv_congr (linkInv_rx_of_receive h hdir) rfl rfl rfl
  · exact keepsBlocks_updateRx hdir _
  · split
    · exact keepsBlocks_receiveOrder l _ s
    · exact .refl s

theorem keepsBlocks_checkMessage (b : List Byte) : KeepsBlocks s (checkMessage l b s) := by
  unfold checkMessage
  split
  · exact keepsBlocks_acceptMessage hdir _
  · exact keepsBlocks_raiseFault _ s

theorem keepsBlocks_assemble (b : Byte) : KeepsBlocks s (assemble l b s) := by
  unfold assemble
  dsimp only
  split
  · split
    · exact .refl s
    · split
      · exact keepsBlocks_setRx _ hdir
      · exact (keepsBlocks_setRx _ hdir).trans (keepsBlocks_raiseFault _ _)
  · split
    · exact (keepsBlocks_setRx _ hdir).trans (keepsBlocks_checkMessage (by rw [link_setRx_self]; exact hdir) _)
    · exact keepsBlocks_setRx _ hdir

theorem keepsBlocks_closeInterval (b : Option Byte) : KeepsBlocks s (closeInterval l b s) := by
  have h : KeepsBlocks s (if (link l s).rx.msg = [] then s else raiseFault .linkMessage (setRx l { (link l s).rx with msg := [] } s)) := by
    split
    · exact .refl s
    · exact (keepsBlocks_setRx _ hdir).trans (keepsBlocks_raiseFault _ _)
  unfold closeInterval
  dsimp only
  split
  · exact h.trans (keepsBlocks_raiseFault _ _)
  · exact h

end

theorem keepsBlocks_finishMark (l : LinkNo) (k : MarkKind) (b : Option Byte) (s : State) : KeepsBlocks s (finishMark l k b s) := by
  unfold finishMark
  split
  · exact .refl s
  · rename_i hdir
    rw [not_not] at hdir
    split
    · exact keepsBlocks_assemble hdir _
    · exact .refl s
    · exact keepsBlocks_updateRx hdir _

theorem keepsBlocks_receiveMark (p : Plan) {l : LinkNo} (k : MarkKind) (b : Option Byte) {s : State} (hdir : (link l s).dir = .receive) :
    KeepsBlocks s (receiveMark p l k b s) := by
  unfold receiveMark
  extract_lets measured s1 q behind s2 s3
  have h1 : KeepsBlocks s s1 := by
    unfold s1
    split
    · exact keepsBlocks_closeInterval hdir b
    · exact .refl s
  have h2 : KeepsBlocks s1 s2 := (keepsBlocks_qualifyMark p l k s1).trans (keepsBlocks_catchUpPassed s1 q)
  have h3 : KeepsBlocks s2 s3 := by
    unfold s3
    split
    · refine .trans ?_ (keepsBlocks_coreMark _ l k _ _)
      split
      · exact keepsBlocks_keepPassing s2
      · exact .refl s2
    · exact .refl s2
  exact (((h1.trans h2).trans h3).trans (keepsBlocks_finishMark l k b s3)).trans (keepsBlocks_catchUp _ _ _)

theorem keepsBlocks_expireLoss (l : LinkNo) (s : State) : KeepsBlocks s (expireLoss l s) := by
  unfold expireLoss
  dsimp only
  split
  · exact keepsBlocks_changeQual l _ _ s
  · exact keepsBlocks_failLink l _ _ s
  · exact keepsBlocks_failLink l _ _ s
  all_goals exact .refl s

/-! ## Starting and stopping the time core -/

theorem keepsBlocks_setSel (q : Selection) (s : State) : KeepsBlocks s { s with sel := q } := .of_eq rfl rfl rfl rfl
theorem keepsBlocks_setSet (q : PlanTable) (o : Option (List Byte)) (s : State) : KeepsBlocks s { s with plans := q, outSet := o } :=
  .of_eq rfl rfl rfl rfl

theorem keepsBlocks_startTime (i : PlanNo) (p : Plan) (v : Option Time) (s : State) : KeepsBlocks s (startTime i p v s) := by
  unfold startTime
  extract_lets plans s1 s2 s3 s4
  have h1 : KeepsBlocks s s1 := keepsBlocks_setPlans _ s
  have h2 : KeepsBlocks s1 s2 := (keepsBlocks_setCore _ s1).trans (keepsBlocks_raiseTime _ _ _)
  have h3 : KeepsBlocks s2 s3 := (keepsBlocks_setDirections p s2).trans (keepsBlocks_reevaluate _)
  have h4 : KeepsBlocks s3 s4 := keepsBlocks_raisePlan _ _ _ s3
  have h := ((h1.trans h2).trans h3).trans h4
  clear_value s4
  split
  · exact h.trans (keepsBlocks_compose s4)
  · exact h

theorem keepsBlocks_stopTime (s : State) : KeepsBlocks s (stopTime s) := by
  unfold stopTime
  extract_lets s1 previous s2 plan plans s3 s4
  have h1 : KeepsBlocks s s1 := (keepsBlocks_flush s).trans (keepsBlocks_forcePulses _)
  have h2 : KeepsBlocks s1 s2 := (keepsBlocks_setCore _ s1).trans (keepsBlocks_raiseTime _ _ _)
  have h3 : KeepsBlocks s2 s3 := (keepsBlocks_setSet _ _ s2).trans (keepsBlocks_allOff _)
  have h4 : KeepsBlocks s3 s4 := keepsBlocks_setSel _ s3
  have h := ((h1.trans h2).trans h3).trans h4
  clear_value s4
  exact h.trans (keepsBlocks_raisePlan _ _ _ s4)

/-! ## The channel, the requests and the tick -/

theorem keepsBlocks_setChannel (c : Channel) (s : State) : KeepsBlocks s { s with channel := c } := .of_eq rfl rfl rfl rfl

theorem keepsBlocks_transmit (s : State) : KeepsBlocks s (transmit s) :=
  ⟨noticeInv_transmit, scheduleInv_transmit, fun h => by rwa [transmit_pulses], fun h l => by rw [link_transmit]; exact h l⟩

theorem keepsBlocks_endCatchUp (b s : State) : KeepsBlocks s (endCatchUp b s) :=
  have h := endCatchUp_toBlocks b s
  .of_eq (congrArg Blocks.notices h) (congrArg Blocks.sched h) (congrArg Blocks.pulses h) (congrArg Blocks.links h)

theorem keepsBlocks_endEdge (b s : State) : KeepsBlocks s (endEdge b s) :=
  have h := endEdge_toBlocks b s
  .of_eq (congrArg Blocks.notices h) (congrArg Blocks.sched h) (congrArg Blocks.pulses h) (congrArg Blocks.links h)

theorem keepsBlocks_arrive (r : Request) (s : State) : KeepsBlocks s (arrive r s) := by
  have h : KeepsBlocks s { s with notices := reportValid s.notices } := ⟨noticeInv_reportValid, id, id, id⟩
  unfold arrive
  dsimp only
  split
  · exact h.trans (keepsBlocks_raiseFault _ _)
  · exact h.trans (keepsBlocks_setChannel _ _)

/-- A byte other than START is dropped in HUNT (R129). -/
theorem hunt_of_not_start {b : Byte} (fuel : Nat) (bs : List Byte) (s : State) (h : b ≠ 0x5B) : hunt (fuel + 1) (b :: bs) s = hunt fuel bs s := by
  cases bs <;> exact if_pos h

/-- A lone START is held (R129). -/
theorem hunt_lone_start (fuel : Nat) (s : State) :
    hunt (fuel + 1) [0x5B] s = { s with channel := { s.channel with held := [0x5B] } } := rfl

/-- What a START with its LEN comes to: LEN out of range, a frame only begun, a frame that passes, or a failing CRC (R131, R132). -/
theorem hunt_start (fuel : Nat) (len : Byte) (rest : List Byte) (s : State) :
    hunt (fuel + 1) (0x5B :: len :: rest) s =
      if len.toNat < 2 ∨ 242 < len.toNat then hunt fuel (len :: rest) (raiseFault .channelFraming s)
      else if rest.length + 2 < len.toNat + 4 then { s with channel := { s.channel with held := 0x5B :: len :: rest } }
      else if frameCrcOk ((0x5B :: len :: rest).take (len.toNat + 4)) then
        hunt fuel ((0x5B :: len :: rest).drop (len.toNat + 4)) (arrive (requestOf ((0x5B :: len :: rest).take (len.toNat + 4))) s)
      else hunt fuel (len :: rest) (raiseFault .channelCrc s) := rfl

theorem keepsBlocks_hunt (fuel : Nat) (bs : List Byte) (s : State) : KeepsBlocks s (hunt fuel bs s) := by
  induction fuel generalizing bs s with
  | zero => exact keepsBlocks_setChannel _ s
  | succ fuel ih =>
    match bs with
    | [] => exact keepsBlocks_setChannel _ s
    | b :: bs =>
      by_cases hb : b = 0x5B
      · subst hb
        match bs with
        | [] => exact keepsBlocks_setChannel _ s
        | len :: rest =>
          rw [hunt_start]
          split
          · exact (keepsBlocks_raiseFault _ s).trans (ih _ _)
          · split
            · exact keepsBlocks_setChannel _ s
            · split
              · exact (keepsBlocks_arrive _ s).trans (ih _ _)
              · exact (keepsBlocks_raiseFault _ s).trans (ih _ _)
      · rw [hunt_of_not_start fuel bs s hb]
        exact ih bs s

theorem keepsBlocks_takeBytes (bs : List Byte) (s : State) : KeepsBlocks s (takeBytes bs s) :=
  (keepsBlocks_hunt _ bs s).trans (keepsBlocks_setChannel _ _)

theorem keepsBlocks_acceptEdge (line : EventLine) (edge : Edge) (c : Core) (s : State) : KeepsBlocks s (acceptEdge line edge c s) := by
  unfold acceptEdge
  dsimp only
  split
  · split
    · exact .of_raised _ rfl rfl rfl rfl
    · exact .of_eq rfl rfl rfl rfl
  · exact .of_eq rfl rfl rfl rfl

theorem keepsBlocks_request {s t : State} (h : RequestEffect s t) : KeepsBlocks s t := by
  cases h with
  | none => exact .refl s
  | holdRestart r => exact .of_eq rfl rfl rfl rfl
  | planWrite i p => exact .of_eq rfl rfl rfl rfl
  | planClear i => exact .of_eq rfl rfl rfl rfl
  | fallbackSet l => exact .of_eq rfl rfl rfl rfl
  | linkSet l o h => exact keepsBlocks_setLink s fun h => linkInv_congr h rfl rfl rfl
  | timeStart i p v => exact keepsBlocks_startTime i p v s
  | timeStop => exact keepsBlocks_stopTime s
  | actionAdd a due o sends hvalid hnew hroom => exact keepsBlocks_sched s fun h => scheduleInv_insertAction a due _ sends h hroom hnew
  | actionCancel e => exact (keepsBlocks_sched s (scheduleInv_finishEntry e.id .cancelled)).trans (keepsBlocks_raiseItem _ _ _)
  | lineSet e q => exact ⟨id, id, pulsesRest_setPolarities q, id⟩
  | captureRead => exact .of_eq rfl rfl rfl rfl
  | haltSet new => exact keepsBlocks_haltPolicy new s
  | noticeAck q gone left hsplit => exact ⟨noticeInv_acknowledged (splitWindow_eq_some hsplit), scheduleInv_release gone, id, id⟩
  | noticeSet timeout m hmask => exact ⟨noticeInv_settings timeout hmask, id, id, id⟩

theorem keepsBlocks_tick (s : State) : KeepsBlocks s (tick s) := by
  refine .trans (t := advance s) ⟨noticeInv_tick, id, id, fun h l => ?_⟩ ((keepsBlocks_transmit _).trans (.of_eq rfl rfl rfl rfl))
  have hlink : link l (advance s) = tickLink (link l s) := Per6.get_map _ _ l
  rw [hlink]
  exact linkInv_tickLink (h l)

theorem keepsBlocks_restarted (s : State) : KeepsBlocks s (restarted s) := by
  refine ⟨noticeInv_restarted, fun _ => scheduleInv_reset, pulsesRest_map fun q _ => pulseRests_idlePulse q, fun _ l => ?_⟩
  have hlink : link l (restarted s) = restartedLink (link l s) := Per6.get_map _ _ l
  rw [hlink]
  exact linkInv_restartedLink _

theorem link_powerOn (rate : LineRate) (haltn : Level) (ev : Per4 Level) (l : LinkNo) : link l (State.powerOn rate haltn ev) = LinkUnit.reset :=
  Per6.get_all _ l

theorem keepsBlocks_event {s t : State} (h : Event s t) : KeepsBlocks s t := by
  cases h with
  | none => exact .refl s
  | powerOn rate haltn ev =>
    refine ⟨fun _ => noticeInv_reset, fun _ => scheduleInv_reset, fun _ o => ?_, fun _ l => ?_⟩
    · exact (Per4.get_all _ o).symm ▸ fun _ => rfl
    · exact (link_powerOn rate haltn ev l).symm ▸ linkInv_reset
  | channelByte b => exact (keepsBlocks_takeBytes _ s).trans (keepsBlocks_transmit _)
  | frameTimer => exact ((keepsBlocks_raiseFault _ s).trans (keepsBlocks_takeBytes _ _)).trans (keepsBlocks_transmit _)
  | request r a t _ h =>
    exact (((keepsBlocks_setChannel _ s).trans (keepsBlocks_request h)).trans (keepsBlocks_setChannel _ _)).trans (keepsBlocks_transmit _)
  | restart => exact keepsBlocks_restarted s
  | frameSent x => exact (keepsBlocks_setChannel _ s).trans (keepsBlocks_transmit _)
  | ackTimer =>
    refine .trans ?_ (keepsBlocks_transmit _)
    exact ⟨noticeInv_expireAck, id, id, id⟩
  | linkMark p l k b _ hdir =>
    exact ((keepsBlocks_receiveMark p k b hdir).trans (keepsBlocks_transmit _)).trans (keepsBlocks_endCatchUp _ _)
  | pulseWidthEnd o => exact keepsBlocks_pulses s fun h => pulsesRest_set o (pulseRests_endWidth (h o)) h
  | holdoverExpired p => exact (keepsBlocks_expireHoldover p s).trans (keepsBlocks_transmit _)
  | generatorStep => exact ((keepsBlocks_runGenerator _ s).trans (keepsBlocks_transmit _)).trans (keepsBlocks_endCatchUp _ _)
  | lossTimer l =>
    exact (((keepsBlocks_expireLoss l s).trans (keepsBlocks_catchUp _ s _)).trans (keepsBlocks_transmit _)).trans (keepsBlocks_endCatchUp _ _)
  | holdoffTimer l =>
    exact (((keepsBlocks_changeQual l _ _ s).trans (keepsBlocks_catchUp _ s _)).trans (keepsBlocks_transmit _)).trans (keepsBlocks_endCatchUp _ _)
  | haltnJudged level => exact keepsBlocks_setHalt _ s
  | haltnAssert => exact ((keepsBlocks_setHalt _ s).trans (keepsBlocks_assertHalt _)).trans (keepsBlocks_transmit _)
  | haltnRelease => exact ((keepsBlocks_setHalt _ s).trans (keepsBlocks_releaseHalt _)).trans (keepsBlocks_transmit _)
  | edgeJudged levels =>
    refine .trans ?_ (keepsBlocks_endEdge s _)
    exact .of_eq rfl rfl rfl rfl
  | edgeAccepted levels line edge c =>
    refine .trans (.trans (.trans ?_ (keepsBlocks_acceptEdge line edge c _)) (keepsBlocks_transmit _)) (keepsBlocks_endEdge s _)
    exact .of_eq rfl rfl rfl rfl
  | markLeaves l => exact keepsBlocks_setLink s linkInv_pairNext

end Sys2Proof.Machine
end

section
/-! SUPPORT. The control channel (R129 to R137): what its operations keep of its invariant, and the invariants of the channel, the notice unit, the schedule, the lines and
the links at every step. -/

namespace Sys2Proof.Machine

/-! ## The lists of the channel -/

/-- The clauses of `ChannelInv` on the request queue, the response list and the line. -/
def SlotsInv (c : Channel) : Prop :=
  SlotsMatch c ∧ c.requests.length ≤ 4 ∧ c.responses.length ≤ 6
    ∧ ∀ t, c.sending = some t → ∀ r, t.frame = .response r → c.responses.head? = some (.filled r)

/-- The clauses on the frame receiver. -/
def ReceiverInv (c : Channel) : Prop := BeginsFrame c.held ∧ (c.frameTimer = none ↔ c.held = [])

theorem channelInv_iff (c : Channel) : ChannelInv c ↔ SlotsInv c ∧ ReceiverInv c := by
  unfold ChannelInv SlotsInv ReceiverInv
  tauto

theorem SlotsInv.congr {c d : Channel} (h : SlotsInv c) (hrequests : d.requests = c.requests) (hresponses : d.responses = c.responses)
    (hsending : d.sending = c.sending) : SlotsInv d := by
  unfold SlotsInv SlotsMatch at h ⊢
  rwa [hrequests, hresponses, hsending]

theorem ReceiverInv.congr {c d : Channel} (h : ReceiverInv c) (hheld : d.held = c.held) (htimer : d.frameTimer = c.frameTimer) : ReceiverInv d := by
  unfold ReceiverInv at h ⊢
  rwa [hheld, htimer]

theorem reservedSlots_append (a b : List Slot) : reservedSlots (a ++ b) = reservedSlots a + reservedSlots b := List.countP_append

/-- A request that is admitted claims a slot: reserved with its place in the queue, or filled with BUSY (R133). -/
theorem slotsInv_claimSlot {c : Channel} (r : Request) (h : SlotsInv c) (hroom : overrun c ≠ true) : SlotsInv (claimSlot r c) := by
  obtain ⟨hmatch, hrequests, hresponses, hsending⟩ := h
  have hslots : c.responses.length < 6 := by
    by_contra hfull
    have hle : Config.responseSlots ≤ c.responses.length := Nat.not_lt.mp hfull
    simp [overrun, hle] at hroom
  have hhead : ∀ (x : Slot) (t : Transmission), c.sending = some t → ∀ r, t.frame = .response r →
      (c.responses ++ [x]).head? = some (.filled r) := by
    intro x t ht r hr
    have := hsending t ht r hr
    cases hc : c.responses <;> simp_all
  unfold claimSlot
  split
  · rename_i hqueue
    have hqueue : c.requests.length < 4 := hqueue
    refine ⟨?_, ?_, ?_, hhead _⟩
    · simp only [SlotsMatch, reservedSlots_append, List.length_append, List.length_singleton]
      rw [hmatch]
      rfl
    · simpa using hqueue
    · simpa using hslots
  · refine ⟨?_, hrequests, by simpa using hslots, hhead _⟩
    simp only [SlotsMatch, reservedSlots_append]
    rw [hmatch]
    rfl

/-- A request answered leaves the queue, and its slot is filled (R135, R136). -/
theorem slotsInv_answered {c d : Channel} (r : Response) (h : SlotsInv c) (hrequests : d.requests = c.requests.tail)
    (hresponses : d.responses = fillSlot r c.responses) (hsending : d.sending = c.sending) : SlotsInv d := by
  obtain ⟨hmatch, hlen, hslots, hline⟩ := h
  refine ⟨?_, ?_, ?_, fun t ht q hq => ?_⟩
  · rw [SlotsMatch, hrequests, hresponses, reservedSlots_fillSlot, hmatch, List.length_tail]
  · rw [hrequests, List.length_tail]
    omega
  · rwa [hresponses, fillSlot_length]
  · have hhead := hline t (hsending ▸ ht) q hq
    rw [hresponses]
    cases hc : c.responses with
    | nil => simp [hc] at hhead
    | cons x xs =>
      obtain rfl : x = .filled q := by simpa [hc] using hhead
      rfl

/-- The end of a frame frees the line, and a response's slot with it (R136, R137). -/
theorem slotsInv_freeLine {c : Channel} {x : Transmission} (h : SlotsInv c) (hx : c.sending = some x) : SlotsInv (freeLine x.frame c) := by
  obtain ⟨hmatch, hlen, hslots, hline⟩ := h
  unfold freeLine
  split
  · rename_i r hr
    have hhead := hline x hx r hr
    refine ⟨?_, hlen, ?_, nofun⟩
    · cases hc : c.responses with
      | nil => simp [hc] at hhead
      | cons y ys =>
        obtain rfl : y = .filled r := by simpa [hc] using hhead
        have : reservedSlots (.filled r :: ys) = reservedSlots ys := List.countP_cons_of_neg (by simp)
        simpa [SlotsMatch, hc, this] using hmatch
    · rw [List.length_tail]
      omega
  · exact ⟨hmatch, hlen, hslots, nofun⟩

theorem slotsInv_transmit {s : State} (h : SlotsInv s.channel) : SlotsInv (transmit s).channel := by
  obtain ⟨hmatch, hlen, hslots, hline⟩ := h
  refine ⟨?_, by rwa [transmit_requests], by rwa [transmit_responses], ?_⟩
  · rw [SlotsMatch, transmit_responses, transmit_requests]
    exact hmatch
  · rw [transmit_responses]
    unfold transmit
    split
    · exact hline
    · rename_i hidle
      split
      · rename_i r rest hr
        rintro t ⟨⟩ q ⟨⟩
        rw [hr]
        rfl
      · split
        · rename_i o _
          cases o with
          | again n =>
            rintro t ⟨⟩ q ⟨⟩
          | fresh n =>
            rintro t ⟨⟩ q ⟨⟩
        · rw [hidle]
          exact nofun

/-! ## The frame receiver -/

theorem slotsInv_arrive {s : State} (r : Request) (h : SlotsInv s.channel) : SlotsInv (arrive r s).channel := by
  unfold arrive
  dsimp only
  split
  · exact h
  · rename_i hroom
    exact slotsInv_claimSlot r h hroom

/-- Whatever is hunted, the lists keep their invariant and the bytes held begin a frame (R129 to R133). -/
theorem hunt_keeps (fuel : Nat) (bs : List Byte) {s : State} (h : SlotsInv s.channel) :
    SlotsInv (hunt fuel bs s).channel ∧ BeginsFrame (hunt fuel bs s).channel.held := by
  induction fuel generalizing bs s with
  | zero => exact ⟨h.congr rfl rfl rfl, .inl rfl⟩
  | succ fuel ih =>
    match bs with
    | [] => exact ⟨h.congr rfl rfl rfl, .inl rfl⟩
    | b :: bs =>
      by_cases hb : b = 0x5B
      · subst hb
        match bs with
        | [] => exact ⟨h.congr rfl rfl rfl, .inr (.inl rfl)⟩
        | len :: rest =>
          rw [hunt_start]
          split
          · exact ih _ h
          · rename_i hlen
            split
            · rename_i hshort
              refine ⟨h.congr rfl rfl rfl, .inr (.inr ⟨rfl, ?_, ?_, ?_, ?_⟩)⟩
              · simp
              · change 2 ≤ len.toNat
                omega
              · change len.toNat ≤ 242
                omega
              · exact hshort
            · split
              · exact ih _ (slotsInv_arrive _ h)
              · exact ih _ h
      · rw [hunt_of_not_start fuel bs s hb]
        exact ih bs h

theorem channelInv_takeBytes {s : State} (bs : List Byte) (h : SlotsInv s.channel) : ChannelInv (takeBytes bs s).channel := by
  obtain ⟨hslots, hheld⟩ := hunt_keeps (bs.length + 1) bs h
  refine (channelInv_iff _).mpr ⟨hslots.congr rfl rfl rfl, hheld, ?_⟩
  change (if (hunt (bs.length + 1) bs s).channel.held = [] then none else some _) = none ↔ (hunt (bs.length + 1) bs s).channel.held = []
  split
  · rename_i hempty
    exact ⟨fun _ => hempty, fun _ => rfl⟩
  · rename_i hheld
    exact ⟨nofun, fun hempty => absurd hempty hheld⟩

/-! ## Every step -/

theorem channelInv_congr {s t : State} (h : ChannelInv s.channel) (heq : t.channel = s.channel) : ChannelInv t.channel := heq ▸ h

theorem channelInv_transmit {s : State} (h : ChannelInv s.channel) : ChannelInv (transmit s).channel := by
  rw [channelInv_iff] at h ⊢
  exact ⟨slotsInv_transmit h.1, h.2.congr (transmit_held s) (transmit_frameTimer s)⟩

theorem SameEnvironment.channel {s t : State} (h : SameEnvironment s t) : t.channel = s.channel := h.2.2.2.2.1
theorem SameEnvironment.capture {s t : State} (h : SameEnvironment s t) : t.capture = s.capture := h.2.2.2.1

/-- A new halt policy writes neither the channel nor the capture unit. -/
theorem haltPolicy_channel_capture (new : HaltPolicy) (s : State) :
    (haltPolicy new s).channel = s.channel ∧ (haltPolicy new s).capture = s.capture := by
  obtain heq | heq | heq := haltPolicy_cases new s <;> rw [heq]
  · exact ⟨rfl, rfl⟩
  · exact ⟨(sameEnvironment_assertHalt _).channel, (sameEnvironment_assertHalt _).capture⟩
  · exact ⟨(sameEnvironment_releaseHalt _).channel, (sameEnvironment_releaseHalt _).capture⟩

/-- Carrying out a request leaves the channel, but for RESTART, which the handler keeps. -/
theorem requestEffect_channel {s t : State} (h : RequestEffect s t) : ∃ x, t.channel = { s.channel with handling := x } := by
  cases h with
  | holdRestart r => exact ⟨_, rfl⟩
  | timeStart i p v => exact ⟨_, (sameEnvironment_startTime i p v s).channel⟩
  | timeStop => exact ⟨_, (sameEnvironment_stopTime s).channel⟩
  | haltSet new => exact ⟨_, (haltPolicy_channel_capture new s).1⟩
  | _ => exact ⟨_, rfl⟩

theorem channelInv_reset (rate : LineRate) : ChannelInv (Channel.reset rate) :=
  ⟨rfl, Nat.zero_le _, Nat.zero_le _, nofun, .inl rfl, ⟨fun _ => rfl, fun _ => rfl⟩⟩

@[simp] theorem endCatchUp_channel (b s : State) : (endCatchUp b s).channel = s.channel := congrArg Blocks.channel (endCatchUp_toBlocks b s)
@[simp] theorem endEdge_channel (b s : State) : (endEdge b s).channel = s.channel := congrArg Blocks.channel (endEdge_toBlocks b s)

theorem acceptEdge_channel (line : EventLine) (edge : Edge) (c : Core) (s : State) : (acceptEdge line edge c s).channel = s.channel := by
  unfold acceptEdge
  dsimp only
  split
  · split <;> rfl
  · rfl

theorem channelInv_event {s t : State} (h : ChannelInv s.channel) (he : Event s t) : ChannelInv t.channel := by
  cases he with
  | none => exact h
  | powerOn rate haltn ev => exact channelInv_reset rate
  | channelByte b => exact channelInv_transmit (channelInv_takeBytes _ ((channelInv_iff _).mp h).1)
  | frameTimer => exact channelInv_transmit (channelInv_takeBytes _ ((channelInv_iff _).mp h).1)
  | request r a t _ hr =>
    obtain ⟨x, hx⟩ := requestEffect_channel hr
    have hplaced : (placeResponse r a t).channel = { s.channel with
        requests := s.channel.requests.tail, handling := x,
        responses := fillSlot { tag := r.tag, kind := responseKind r.kind, status := a.status, fields := a.fields } s.channel.responses } := by
      rw [placeResponse, hx]
      rfl
    refine channelInv_transmit ?_
    rw [hplaced]
    rw [channelInv_iff] at h ⊢
    exact ⟨slotsInv_answered _ h.1 rfl rfl rfl, h.2⟩
  | restart => exact channelInv_reset s.channel.rate
  | frameSent x hx =>
    rw [channelInv_iff] at h
    refine channelInv_transmit ((channelInv_iff _).mpr ⟨slotsInv_freeLine h.1 hx, h.2.congr ?_ ?_⟩)
    all_goals
      unfold freeLine
      dsimp only
      split <;> rfl
  | ackTimer => exact channelInv_transmit (channelInv_congr h rfl)
  | linkMark p l k b =>
    rw [endCatchUp_channel]
    exact channelInv_transmit (channelInv_congr h (sameEnvironment_receiveMark p l k b s).channel)
  | pulseWidthEnd o => exact h
  | holdoverExpired p => exact channelInv_transmit (channelInv_congr h (sameEnvironment_expireHoldover p s).channel)
  | generatorStep =>
    rw [endCatchUp_channel]
    exact channelInv_transmit (channelInv_congr h (sameEnvironment_runGenerator _ s).channel)
  | lossTimer l =>
    rw [endCatchUp_channel]
    exact channelInv_transmit (channelInv_congr h ((sameEnvironment_expireLoss l s).trans (sameEnvironment_catchUp _ s _)).channel)
  | holdoffTimer l =>
    rw [endCatchUp_channel]
    exact channelInv_transmit (channelInv_congr h ((sameEnvironment_changeQual l _ _ s).trans (sameEnvironment_catchUp _ s _)).channel)
  | haltnJudged level => exact h
  | haltnAssert => exact channelInv_transmit (channelInv_congr h (sameEnvironment_assertHalt _).channel)
  | haltnRelease => exact channelInv_transmit (channelInv_congr h (sameEnvironment_releaseHalt _).channel)
  | edgeJudged levels =>
    rw [endEdge_channel]
    exact h
  | edgeAccepted levels line edge c =>
    rw [endEdge_channel]
    exact channelInv_transmit (channelInv_congr h (acceptEdge_channel line edge c _))
  | markLeaves l => exact h

theorem channelInv_tick {s : State} (h : ChannelInv s.channel) : ChannelInv (tick s).channel := by
  refine channelInv_transmit (s := advance s) ?_
  obtain ⟨hmatch, hrequests, hresponses, hline, hheld, htimer⟩ := h
  refine ⟨hmatch, hrequests, hresponses, fun t ht r hr => ?_, hheld, ?_⟩
  · obtain ⟨x, hx, rfl⟩ := Option.map_eq_some_iff.mp ht
    exact hline x hx r hr
  · exact Option.map_eq_none_iff.trans htimer

/-- Settles O54: the frame receiver by `hunt_keeps`, the lists by one lemma for each claim, answer and end of a frame; no timing function writes the channel. -/
theorem stepKeepsTheChannelInvariant : Obligations.StepKeepsTheChannelInvariant := fun _ _ h ht =>
  step_keeps (P := fun s => ChannelInv s.channel) (fun _ _ h => h) (fun _ => channelInv_tick) (fun _ _ => channelInv_event) h ht

/-- Settles O55: `KeepsBlocks` of every event and of the tick. -/
theorem stepKeepsTheNoticeInvariant : Obligations.StepKeepsTheNoticeInvariant := fun _ _ h ht =>
  step_keeps (P := fun s => NoticeInv s.notices) (fun _ _ h => h) (fun s => (keepsBlocks_tick s).notices) (fun _ _ h he => (keepsBlocks_event he).notices h)
    h ht

/-- Settles O58: `KeepsBlocks` of every event and of the tick. -/
theorem stepKeepsTheScheduleInvariant : Obligations.StepKeepsTheScheduleInvariant := fun _ _ h ht =>
  step_keeps (P := fun s => ScheduleInv s.sched) (fun _ _ h => h) (fun s => (keepsBlocks_tick s).sched) (fun _ _ h he => (keepsBlocks_event he).sched h)
    h ht

/-! ## The capture unit -/

/-- The clauses of `LineInv` on the capture unit. -/
def CaptureInv (c : Capture) : Prop := c.fifo.length ≤ 64 ∧ c.gap ≤ 65535

theorem lineInv_iff (s : State) : LineInv s ↔ CaptureInv s.capture ∧ PulsesRest s.pulses := by
  unfold LineInv CaptureInv PulsesRest PulseRests
  tauto

theorem captureInv_acceptEdge (line : EventLine) (edge : Edge) (c : Core) {s : State} (h : CaptureInv s.capture) :
    CaptureInv (acceptEdge line edge c s).capture := by
  obtain ⟨hfifo, hgap⟩ := h
  unfold acceptEdge
  dsimp only
  split
  · rename_i hroom
    have hroom : s.capture.fifo.length < 64 := hroom
    have hstored : CaptureInv { s.capture with fifo := s.capture.fifo ++ [captureOf line edge s.capture.gap c], gap := 0 } :=
      ⟨by simpa using hroom, Nat.zero_le _⟩
    split <;> exact hstored
  · exact ⟨hfifo, Nat.min_le_right _ _⟩

theorem captureInv_request {s t : State} (h : CaptureInv s.capture) (hr : RequestEffect s t) : CaptureInv t.capture := by
  cases hr with
  | timeStart i p v => rwa [(sameEnvironment_startTime i p v s).capture]
  | timeStop => rwa [(sameEnvironment_stopTime s).capture]
  | captureRead =>
    obtain ⟨hfifo, hgap⟩ := h
    refine ⟨?_, hgap⟩
    simp only [List.length_drop]
    omega
  | haltSet new => rwa [(haltPolicy_channel_capture new s).2]
  | _ => exact h

@[simp] theorem endCatchUp_capture (b s : State) : (endCatchUp b s).capture = s.capture := congrArg Blocks.capture (endCatchUp_toBlocks b s)
@[simp] theorem endEdge_capture (b s : State) : (endEdge b s).capture = s.capture := congrArg Blocks.capture (endEdge_toBlocks b s)

/-- The frame receiver writes the channel and the notice unit. -/
theorem arrive_eq (r : Request) (s : State) : ∃ c n, arrive r s = { s with channel := c, notices := n } := by
  unfold arrive
  dsimp only
  split <;> exact ⟨_, _, rfl⟩

theorem hunt_eq (fuel : Nat) (bs : List Byte) (s : State) : ∃ c n, hunt fuel bs s = { s with channel := c, notices := n } := by
  induction fuel generalizing bs s with
  | zero => exact ⟨_, _, rfl⟩
  | succ fuel ih =>
    match bs with
    | [] => exact ⟨_, _, rfl⟩
    | b :: bs =>
      by_cases hb : b = 0x5B
      · subst hb
        match bs with
        | [] => exact ⟨_, _, rfl⟩
        | len :: rest =>
          rw [hunt_start]
          split
          · exact ih _ _
          · split
            · exact ⟨_, _, rfl⟩
            · split
              · obtain ⟨c, n, harrive⟩ := arrive_eq (requestOf ((0x5B :: len :: rest).take (len.toNat + 4))) s
                rw [harrive]
                exact ih _ _
              · exact ih _ _
      · rw [hunt_of_not_start fuel bs s hb]
        exact ih bs s

theorem takeBytes_eq (bs : List Byte) (s : State) : ∃ c n, takeBytes bs s = { s with channel := c, notices := n } := by
  obtain ⟨c, n, h⟩ := hunt_eq (bs.length + 1) bs s
  exact ⟨_, n, by rw [takeBytes, h]; rfl⟩

@[simp] theorem takeBytes_capture (bs : List Byte) (s : State) : (takeBytes bs s).capture = s.capture := by
  obtain ⟨c, n, h⟩ := takeBytes_eq bs s
  rw [h]

theorem captureInv_event {s t : State} (h : CaptureInv s.capture) (he : Event s t) : CaptureInv t.capture := by
  cases he with
  | none => exact h
  | powerOn rate haltn ev => exact ⟨Nat.zero_le _, Nat.zero_le _⟩
  | channelByte b =>
    rw [transmit_capture, takeBytes_capture]
    exact h
  | frameTimer =>
    rw [transmit_capture, takeBytes_capture]
    exact h
  | request r a t _ hr =>
    rw [transmit_capture]
    exact (captureInv_request (s := dequeue s) h hr : CaptureInv t.capture)
  | restart => exact ⟨Nat.zero_le _, Nat.zero_le _⟩
  | frameSent x hx =>
    rw [transmit_capture]
    exact h
  | ackTimer =>
    rw [transmit_capture]
    exact h
  | linkMark p l k b =>
    rw [endCatchUp_capture, transmit_capture, (sameEnvironment_receiveMark p l k b s).capture]
    exact h
  | pulseWidthEnd o => exact h
  | holdoverExpired p =>
    rw [transmit_capture, (sameEnvironment_expireHoldover p s).capture]
    exact h
  | generatorStep =>
    rw [endCatchUp_capture, transmit_capture, (sameEnvironment_runGenerator _ s).capture]
    exact h
  | lossTimer l =>
    rw [endCatchUp_capture, transmit_capture, ((sameEnvironment_expireLoss l s).trans (sameEnvironment_catchUp _ s _)).capture]
    exact h
  | holdoffTimer l =>
    rw [endCatchUp_capture, transmit_capture, ((sameEnvironment_changeQual l _ _ s).trans (sameEnvironment_catchUp _ s _)).capture]
    exact h
  | haltnJudged level => exact h
  | haltnAssert =>
    rw [transmit_capture, (sameEnvironment_assertHalt _).capture]
    exact h
  | haltnRelease =>
    rw [transmit_capture, (sameEnvironment_releaseHalt _).capture]
    exact h
  | edgeJudged levels =>
    rw [endEdge_capture]
    exact h
  | edgeAccepted levels line edge c =>
    rw [endEdge_capture, transmit_capture]
    exact captureInv_acceptEdge line edge c h
  | markLeaves l => exact h

theorem captureInv_tick {s : State} (h : CaptureInv s.capture) : CaptureInv (tick s).capture :=
  (transmit_capture (advance s)).symm ▸ h

theorem lineInv_event {s t : State} (h : LineInv s) (he : Event s t) : LineInv t := by
  rw [lineInv_iff] at h ⊢
  exact ⟨captureInv_event h.1 he, (keepsBlocks_event he).pulses h.2⟩

theorem lineInv_tick {s : State} (h : LineInv s) : LineInv (tick s) := by
  rw [lineInv_iff] at h ⊢
  exact ⟨captureInv_tick h.1, (keepsBlocks_tick s).pulses h.2⟩

/-- Settles O59: the pulse outputs and the links by `KeepsBlocks`; only an edge and CAPTURE_READ write the FIFO and the gap. -/
theorem stepKeepsTheLineAndLinkInvariants : Obligations.StepKeepsTheLineAndLinkInvariants := fun _ _ ht =>
  ⟨fun h => step_keeps (P := LineInv) (fun _ _ h => h) (fun _ => lineInv_tick) (fun _ _ => lineInv_event) h ht,
    fun h => step_keeps (P := fun s => ∀ l, LinkInv (link l s)) (fun _ _ h => h) (fun s => (keepsBlocks_tick s).links)
      (fun _ _ h he => (keepsBlocks_event he).links h) h ht⟩

end Sys2Proof.Machine
end

section
/-! SUPPORT. The moves of the time core (Chapter 1): what each entry into a state writes, as an equation, and what every move leaves. -/

namespace Sys2Proof.Machine

/-! ## The generator at an entry -/

theorem learnedValid_iff (c : Core) : learnedValid c = true ↔ c.learned.length = 8 := by
  simp [learnedValid, Config.learnedIntervals]

/-- The generator after an entry into a generating state: as it runs, or started at the oldest interval of a valid record in HOLDOVER and FREE and at the nominal
interval otherwise (R7). -/
def enteredGenerator (p : Plan) (st : CoreState) (c : Core) : Generator :=
  if c.gen.running then c.gen
  else if (st = .holdover ∨ st = .free) ∧ c.learned.length = 8 then
    { c.gen with running := true, cycle := 0, spacing := c.learned.headD 0, fromRecord := true }
  else { c.gen with running := true, cycle := 0, spacing := p.nominal, fromRecord := false }

theorem enteredGenerator_running (p : Plan) (st : CoreState) (c : Core) : (enteredGenerator p st c).running = true := by
  unfold enteredGenerator
  split
  · assumption
  · split <;> rfl

theorem headD_eq_getD (l : List Nat) : l.headD 0 = l.getD 0 0 := by cases l <;> rfl

/-- The grade and hops of an entry, and the generator as it then runs (R7, R19). -/
theorem enterGenerating_eq (p : Plan) (st : CoreState) (c : Core) :
    enterGenerating p st c = { ownGrade { c with state := st } with gen := enteredGenerator p st c } := by
  have hown : ∀ c : Core, ownGrade c = { c with grade := (ownGrade c).grade, hops := (ownGrade c).hops } := by
    intro c
    unfold ownGrade
    split
    · split <;> rfl
    all_goals rfl
  unfold enterGenerating enteredGenerator
  rw [hown]
  dsimp only
  split
  · rfl
  · unfold fixSpacing nextSpacing
    dsimp only
    by_cases hrecord : (st = .holdover ∨ st = .free) ∧ c.learned.length = 8
    · rw [if_pos hrecord, if_pos ⟨hrecord.1, (learnedValid_iff _).mpr hrecord.2⟩, headD_eq_getD]
      rfl
    · rw [if_neg hrecord, if_neg fun h => hrecord ⟨h.1, (learnedValid_iff _).mp h.2⟩]

theorem enterGenerating_master (p : Plan) (c : Core) :
    enterGenerating p .master c =
      { c with state := .master, grade := if c.takeover then 2 else 0, hops := 0, gen := enteredGenerator p .master c } := by
  rw [enterGenerating_eq]
  unfold ownGrade
  dsimp only
  split <;> rfl

theorem enterGenerating_holdover (p : Plan) (c : Core) :
    enterGenerating p .holdover c = { c with state := .holdover, grade := 3, gen := enteredGenerator p .holdover c } := by
  rw [enterGenerating_eq]
  rfl

theorem enterGenerating_free (p : Plan) (c : Core) :
    enterGenerating p .free c = { c with state := .free, grade := 4, gen := enteredGenerator p .free c } := by
  rw [enterGenerating_eq]
  rfl

/-- A takeover by a core that is not in one (R12, R73). -/
theorem takeOver_of_not (p : Plan) {c : Core} (h : c.takeover = false) :
    takeOver p c = { c with
      state := .master, takeover := true, grade := 2, hops := 0, outRealign := some (carryingSync c), gen := enteredGenerator p .master c } := by
  have hnot : ¬c.takeover = true := by rw [h]; decide
  rw [takeOver, if_neg hnot, enterGenerating_master]
  rfl

theorem takeOver_of_already (p : Plan) {c : Core} (h : c.takeover = true) :
    takeOver p c = { c with state := .master, grade := 2, hops := 0, gen := enteredGenerator p .master c } := by
  rw [takeOver, if_pos h, enterGenerating_master, if_pos h]

/-- A core that carries on alone: the state and count of `aloneState`, grade 3 or 4 by the state, and a running generator (R12). -/
theorem carryOn_eq (p : Plan) (was : CoreState) (c : Core) :
    carryOn p was c = { c with
      state := (aloneState was c.learned.length c.holdoverCount).1
      holdoverCount := (aloneState was c.learned.length c.holdoverCount).2
      grade := if (aloneState was c.learned.length c.holdoverCount).1 = .holdover then 3 else 4
      gen := enteredGenerator p (aloneState was c.learned.length c.holdoverCount).1 c } := by
  have hcount : ∀ n, enteredGenerator p .holdover { c with holdoverCount := n } = enteredGenerator p .holdover c := fun _ => rfl
  have hother : carryOn p .idle c = { c with
      state := (aloneState .idle c.learned.length c.holdoverCount).1
      holdoverCount := (aloneState .idle c.learned.length c.holdoverCount).2
      grade := if (aloneState .idle c.learned.length c.holdoverCount).1 = .holdover then 3 else 4
      gen := enteredGenerator p (aloneState .idle c.learned.length c.holdoverCount).1 c } := by
    by_cases hv : c.learned.length = 8
    · have hrecord : learnedValid c = true := (learnedValid_iff c).mpr hv
      simp [carryOn, aloneState, hv, hrecord, enterGenerating_holdover, hcount]
    · have hrecord : ¬learnedValid c = true := fun h => hv ((learnedValid_iff c).mp h)
      simp [carryOn, aloneState, hv, hrecord, enterGenerating_free]
  cases was with
  | free => simp [carryOn, aloneState, enterGenerating_free]
  | holdover => simp [carryOn, aloneState, enterGenerating_holdover]
  | _ => exact hother

theorem aloneState_state (was : CoreState) (n k : Nat) : (aloneState was n k).1 = .holdover ∨ (aloneState was n k).1 = .free := by
  unfold aloneState
  split
  · exact .inr rfl
  · split
    · exact .inl rfl
    · split
      · exact .inl rfl
      · exact .inr rfl

/-! ## What a move leaves -/

/-- A move of the core: only its state, takeover flag, grade, hops, holdover count, outbound realign and generator may differ. -/
def MovesOnly (c d : Core) : Prop :=
  d = { c with
    state := d.state, takeover := d.takeover, grade := d.grade, hops := d.hops, holdoverCount := d.holdoverCount, outRealign := d.outRealign, gen := d.gen }

theorem MovesOnly.refl (c : Core) : MovesOnly c c := rfl

theorem MovesOnly.trans {c d e : Core} (h : MovesOnly c d) (k : MovesOnly d e) : MovesOnly c e := by
  unfold MovesOnly at h k ⊢
  rw [k, h]

section
variable {c d : Core} (h : MovesOnly c d)
include h

theorem MovesOnly.time : d.time = c.time := by rw [MovesOnly] at h; rw [h]
theorem MovesOnly.valid : d.valid = c.valid := by rw [MovesOnly] at h; rw [h]
theorem MovesOnly.syncIndex : d.syncIndex = c.syncIndex := by rw [MovesOnly] at h; rw [h]
theorem MovesOnly.record : d.record = c.record := by rw [MovesOnly] at h; rw [h]
theorem MovesOnly.learned : d.learned = c.learned := by rw [MovesOnly] at h; rw [h]
theorem MovesOnly.remembered : d.remembered = c.remembered := by rw [MovesOnly] at h; rw [h]
theorem MovesOnly.syncWork : d.syncWork = c.syncWork := by rw [MovesOnly] at h; rw [h]

end

theorem movesOnly_takeover (b : Bool) (c : Core) : MovesOnly c { c with takeover := b } := rfl
theorem movesOnly_setRealign (c : Core) : MovesOnly c (setRealign c) := rfl

theorem movesOnly_ownGrade (c : Core) : MovesOnly c (ownGrade c) := by
  unfold ownGrade
  split
  · split <;> rfl
  all_goals rfl

theorem movesOnly_enterGenerating (p : Plan) (st : CoreState) (c : Core) : MovesOnly c (enterGenerating p st c) := by
  rw [enterGenerating_eq]
  exact (show MovesOnly c { c with state := st } from rfl).trans ((movesOnly_ownGrade _).trans rfl)

theorem movesOnly_takeOver (p : Plan) (c : Core) : MovesOnly c (takeOver p c) := by
  unfold takeOver
  refine .trans ?_ (movesOnly_enterGenerating p .master _)
  split <;> rfl

theorem movesOnly_carryOn (p : Plan) (was : CoreState) (c : Core) : MovesOnly c (carryOn p was c) := by
  rw [carryOn_eq]
  rfl

theorem movesOnly_noSourcePath (p : Plan) (source : Option LinkNo) (was : CoreState) (c : Core) : MovesOnly c (noSourcePath p source was c) := by
  unfold noSourcePath
  split
  · exact .trans (movesOnly_takeover false c) (movesOnly_enterGenerating p .master _)
  · exact movesOnly_takeOver p c
  · split
    · exact movesOnly_enterGenerating p .master c
    · exact movesOnly_carryOn p was c
  · exact movesOnly_carryOn p was c

theorem movesOnly_afterSelection (p : Plan) (source : Option LinkNo) (c : Core) : MovesOnly c (afterSelection p source c) := by
  unfold afterSelection
  split
  · exact movesOnly_noSourcePath p source .locked c
  · split
    · exact movesOnly_takeOver p c
    · exact .refl c
  · split
    · exact movesOnly_takeOver p c
    · exact .refl c
  all_goals exact .refl c

theorem movesOnly_afterPlanChange (p : Plan) (sel : Selection) (c : Core) : MovesOnly c (afterPlanChange p sel c) := by
  have halone : MovesOnly c (if c.state = .locked ∧ sel.source.isSome ∧ sel.joined then { c with takeover := false }
      else noSourcePath p sel.source c.state { c with takeover := false }) := by
    split
    · exact movesOnly_takeover false c
    · exact .trans (movesOnly_takeover false c) (movesOnly_noSourcePath p sel.source c.state _)
  unfold afterPlanChange
  split
  · exact .refl c
  · exact .refl c
  · split
    · exact .trans (movesOnly_takeover false c) (movesOnly_enterGenerating p .master _)
    · exact halone
    · exact halone

end Sys2Proof.Machine
end

section
/-! SUPPORT. The invariant of the time core (R2, R7, R8, R19, R20, R173) and the takeover's (R12, R65): what each move of the core keeps of them. -/

namespace Sys2Proof.Machine

/-! ## A core that counts -/

/-- A core that counts steps, with time valid and its generator, grade and hops in accord with its state; the invariant of the core within the work of a sync. -/
structure Working (c : Core) : Prop where
  running : c.gen.running = generating c.state
  counting : counting c.state = true
  valid : c.valid = true
  grade : GradeFollowsState c
  learned : c.learned.length ≤ 8

theorem counting_of_generating {st : CoreState} (h : generating st = true) : counting st = true := by
  cases st <;> first | rfl | cases h

theorem CoreInv.working {c : Core} (h : CoreInv c) (hc : counting c.state = true) : Working c := by
  obtain ⟨hrunning, hvalid, -, -, -, -, -, hgrade, hlearned, -, -, -⟩ := h
  exact ⟨hrunning, hc, hvalid hc, hgrade, hlearned⟩

theorem CoreInv.remembered_of_counting {c : Core} (h : CoreInv c) (hc : counting c.state = true) : c.remembered = none := by
  obtain ⟨-, -, -, hhalted, -⟩ := h
  cases hr : c.remembered with
  | none => rfl
  | some st =>
    rw [hhalted.mp (by rw [hr]; rfl)] at hc
    cases hc

theorem CoreInv.recordValid {c : Core} (h : CoreInv c) : c.valid = true → c.record.valid = true := h.2.2.1
theorem CoreInv.noSyncWork {c : Core} (h : CoreInv c) : c.syncWork = none := by
  obtain ⟨-, -, -, -, -, -, -, -, -, -, hwork, -⟩ := h
  exact hwork
theorem CoreInv.learned_le {c : Core} (h : CoreInv c) : c.learned.length ≤ 8 := by
  obtain ⟨-, -, -, -, -, -, -, -, hlearned, -⟩ := h
  exact hlearned
theorem CoreInv.running_eq {c : Core} (h : CoreInv c) : c.gen.running = generating c.state := h.1

/-- Outside the work of a sync a counting core meets the whole invariant. -/
theorem Working.coreInv {c : Core} (h : Working c) (hremembered : c.remembered = none) (hrecord : c.record.valid = true) (hwork : c.syncWork = none) :
    CoreInv c := by
  have hstate : c.state ≠ .halted ∧ c.state ≠ .idle ∧ c.state ≠ .acquiring := by
    have hc := h.counting
    refine ⟨?_, ?_, ?_⟩ <;> rintro heq <;> rw [heq] at hc <;> cases hc
  obtain ⟨hhalted, hidle, hacquiring⟩ := hstate
  refine ⟨h.running, fun _ => h.valid, fun _ => hrecord, ?_, ?_, ?_, ?_, h.grade, h.learned, fun hi => absurd hi hidle, hwork, ?_⟩
  · rw [hremembered]
    exact ⟨nofun, fun hh => absurd hh hhalted⟩
  · rw [hremembered]
    exact nofun
  · rw [hremembered]
    exact nofun
  · rw [hremembered]
    exact nofun
  · rw [hremembered]
    rintro (h | h)
    · exact absurd h hacquiring
    · cases h

/-- The invariant says nothing of the time value, the counts of steps and ticks, the holdover count and the realign-pending flag. -/
theorem CoreInv.congr {c d : Core} (h : CoreInv c) (hstate : d.state = c.state) (htakeover : d.takeover = c.takeover)
    (hremembered : d.remembered = c.remembered) (hvalid : d.valid = c.valid) (hgrade : d.grade = c.grade) (hhops : d.hops = c.hops)
    (hlearned : d.learned = c.learned) (hgen : d.gen.running = c.gen.running) (hrecord : d.record = c.record) (hwork : d.syncWork = c.syncWork)
    (hrealign : d.outRealign = c.outRealign) (hindex : d.syncIndex = c.syncIndex) : CoreInv d := by
  unfold CoreInv GradeFollowsState at h ⊢
  simpa only [hstate, htakeover, hremembered, hvalid, hgrade, hhops, hlearned, hgen, hrecord, hwork, hrealign, hindex] using h

/-! ## Entries -/

theorem working_enterGenerating (p : Plan) {st : CoreState} {c : Core} (hst : generating st = true) (hvalid : c.valid = true)
    (hlearned : c.learned.length ≤ 8) : Working (enterGenerating p st c) := by
  cases st with
  | master =>
    rw [enterGenerating_master]
    refine ⟨enteredGenerator_running p _ c, rfl, hvalid, ?_, hlearned⟩
    change (_, _) = _
    dsimp only
    split <;> rfl
  | holdover =>
    rw [enterGenerating_holdover]
    exact ⟨enteredGenerator_running p _ c, rfl, hvalid, rfl, hlearned⟩
  | free =>
    rw [enterGenerating_free]
    exact ⟨enteredGenerator_running p _ c, rfl, hvalid, rfl, hlearned⟩
  | _ => cases hst

theorem enterGenerating_state (p : Plan) (st : CoreState) (c : Core) : (enterGenerating p st c).state = st := by
  have hown : ∀ c : Core, (ownGrade c).state = c.state := by
    intro c
    unfold ownGrade
    split
    · split <;> rfl
    all_goals rfl
  rw [enterGenerating_eq]
  exact hown _

theorem enterGenerating_takeover (p : Plan) (st : CoreState) (c : Core) : (enterGenerating p st c).takeover = c.takeover := by
  have hown : ∀ c : Core, (ownGrade c).takeover = c.takeover := by
    intro c
    unfold ownGrade
    split
    · split <;> rfl
    all_goals rfl
  rw [enterGenerating_eq]
  exact hown _

theorem takeOver_state (p : Plan) (c : Core) : (takeOver p c).state = .master := enterGenerating_state p .master _

theorem working_takeOver (p : Plan) {c : Core} (hvalid : c.valid = true) (hlearned : c.learned.length ≤ 8) : Working (takeOver p c) := by
  unfold takeOver
  split
  · exact working_enterGenerating p rfl hvalid hlearned
  · exact working_enterGenerating p rfl hvalid hlearned

theorem working_carryOn (p : Plan) (was : CoreState) {c : Core} (hvalid : c.valid = true) (hlearned : c.learned.length ≤ 8) :
    Working (carryOn p was c) := by
  unfold carryOn
  split
  · exact working_enterGenerating p rfl hvalid hlearned
  · exact working_enterGenerating p rfl hvalid hlearned
  · split
    · exact working_enterGenerating p rfl hvalid hlearned
    · exact working_enterGenerating p rfl hvalid hlearned

theorem working_noSourcePath (p : Plan) (source : Option LinkNo) (was : CoreState) {c : Core} (hvalid : c.valid = true)
    (hlearned : c.learned.length ≤ 8) : Working (noSourcePath p source was c) := by
  unfold noSourcePath
  split
  · exact working_enterGenerating p rfl hvalid hlearned
  · exact working_takeOver p hvalid hlearned
  · split
    · exact working_enterGenerating p rfl hvalid hlearned
    · exact working_carryOn p was hvalid hlearned
  · exact working_carryOn p was hvalid hlearned

theorem working_afterSelection (p : Plan) (source : Option LinkNo) {c : Core} (h : Working c) : Working (afterSelection p source c) := by
  unfold afterSelection
  split
  · exact working_noSourcePath p source .locked h.valid h.learned
  · split
    · exact working_takeOver p h.valid h.learned
    · exact h
  · split
    · exact working_takeOver p h.valid h.learned
    · exact h
  all_goals exact h

theorem working_afterPlanChange (p : Plan) (sel : Selection) {c : Core} (h : Working c) : Working (afterPlanChange p sel c) := by
  have halone : Working (if c.state = .locked ∧ sel.source.isSome ∧ sel.joined then { c with takeover := false }
      else noSourcePath p sel.source c.state { c with takeover := false }) := by
    split
    · rename_i hlocked
      have hgrade := h.grade
      refine ⟨h.running, h.counting, h.valid, ?_, h.learned⟩
      unfold GradeFollowsState at hgrade ⊢
      rw [hlocked.1] at hgrade
      dsimp only
      rwa [hlocked.1]
    · exact working_noSourcePath p sel.source c.state h.valid h.learned
  unfold afterPlanChange
  split
  · exact h
  · exact h
  · split
    · exact working_enterGenerating p rfl h.valid h.learned
    · exact halone
    · exact halone

/-- A move that leaves a counting core keeps the whole invariant. -/
theorem coreInv_of_moves {c d : Core} (h : CoreInv c) (hd : Working d) (hmoves : MovesOnly c d) (hremembered : c.remembered = none) : CoreInv d := by
  refine hd.coreInv (hmoves.remembered.trans hremembered) ?_ (hmoves.syncWork.trans h.noSyncWork)
  rw [hmoves.record]
  exact h.recordValid (hmoves.valid ▸ hd.valid)

/-- A change of selection leaves a core that does not count, but for the flags of no state (R72). -/
theorem afterSelection_of_not_counting (p : Plan) (source : Option LinkNo) {c : Core} (h : ¬counting c.state = true) :
    afterSelection p source c = c := by
  unfold afterSelection
  split <;> first | rfl | (rename_i hst; exact absurd (by rw [hst]; rfl) h)

theorem coreInv_afterSelection (p : Plan) (source : Option LinkNo) {c : Core} (h : CoreInv c) : CoreInv (afterSelection p source c) := by
  by_cases hc : counting c.state = true
  · exact coreInv_of_moves h (working_afterSelection p source (h.working hc)) (movesOnly_afterSelection p source c) (h.remembered_of_counting hc)
  · rwa [afterSelection_of_not_counting p source hc]

/-! ## LOCKED -/

theorem gradeFollowsState_lockedGrade (q : Option Quality) {c : Core} (h : c.state = .locked) : GradeFollowsState (lockedGrade q c) := by
  have hstate : (lockedGrade q c).state = .locked := h
  unfold GradeFollowsState
  rw [hstate]
  dsimp only [lockedGrade]
  omega

/-- The joined source's QUALITY gives a LOCKED core its grade and hops (R19). -/
theorem coreInv_lockedGrade (q : Option Quality) {c : Core} (h : CoreInv c) (hlocked : c.state = .locked) : CoreInv (lockedGrade q c) := by
  have hc : counting c.state = true := by rw [hlocked]; rfl
  have hw := h.working hc
  refine Working.coreInv ⟨hw.running, hw.counting, hw.valid, gradeFollowsState_lockedGrade q hlocked, hw.learned⟩ (h.remembered_of_counting hc)
    (h.recordValid hw.valid) h.noSyncWork

theorem length_learn_le (n : Nat) {c : Core} (h : c.learned.length ≤ 8) : (learn n c).learned.length ≤ 8 := by
  simp only [learn, List.length_drop, List.length_append, List.length_singleton, Config.learnedIntervals]
  omega

/-! ## Start, stop, halt and release -/

theorem coreInv_reset : CoreInv Core.reset :=
  ⟨rfl, nofun, nofun, ⟨nofun, nofun⟩, nofun, nofun, nofun, rfl, by decide, fun _ => rfl, rfl, nofun⟩

theorem coreInv_stoppedCore {c : Core} (h : CoreInv c) : CoreInv (stoppedCore c) :=
  ⟨rfl, nofun, nofun, ⟨nofun, nofun⟩, nofun, nofun, nofun, rfl, Nat.zero_le _, fun _ => rfl, h.noSyncWork, nofun⟩

theorem coreInv_startedCore (p : Plan) (start : Option Time) {c : Core} (h : CoreInv c) (hidle : c.state = .idle) : CoreInv (startedCore p start c) := by
  have hstopped : c.gen.running = false := by rw [h.running_eq, hidle]; rfl
  unfold startedCore
  cases start with
  | none =>
    exact ⟨hstopped, nofun, nofun, ⟨nofun, nofun⟩, nofun, nofun, nofun, rfl, h.learned_le, nofun, h.noSyncWork, fun _ => nofun⟩
  | some v =>
    have hentered : ∀ (st : CoreState) (d : Core), generating st = true → d.valid = true → d.learned = c.learned → d.remembered = none →
        d.record.valid = true → d.syncWork = c.syncWork → CoreInv (enterGenerating p st d) := by
      intro st d hst hvalid hlearned hremembered hrecord hwork
      have hmoves := movesOnly_enterGenerating p st d
      refine (working_enterGenerating p hst hvalid (hlearned ▸ h.learned_le)).coreInv (hmoves.remembered.trans hremembered) ?_ ?_
      · rw [hmoves.record]
        exact hrecord
      · rw [hmoves.syncWork, hwork]
        exact h.noSyncWork
    dsimp only
    split <;> exact hentered _ _ rfl rfl rfl rfl rfl rfl

theorem coreInv_haltedCore {c : Core} (h : CoreInv c) (hidle : c.state ≠ .idle) (hhalted : c.state ≠ .halted) : CoreInv (haltedCore c) := by
  obtain ⟨hrunning, hvalid, hrecord, hremembered, -, -, -, hgrade, hlearned, -, hwork, hrealign⟩ := h
  refine ⟨rfl, nofun, hrecord, ⟨fun _ => rfl, fun _ => rfl⟩, ?_, ?_, ?_, trivial, hlearned, nofun, hwork, ?_⟩
  · exact fun hst => hidle (Option.some.inj hst)
  · exact fun hst => hhalted (Option.some.inj hst)
  · intro st hst hc
    obtain rfl := Option.some.inj hst
    exact hvalid hc
  · rintro (hst | hst)
    · cases hst
    · exact hrealign (.inl (Option.some.inj hst))

/-- The state resumed after a release: ACQUIRING at grade 4 and hops 15, or a state that counts (R21 a to d). -/
theorem resumedState_cases (p : Plan) (sel : Selection) (quality : Option Quality) {c : Core} (h : CoreInv c) (hhalted : c.state = .halted) :
    Working (resumedState p sel quality c) ∨ (resumedState p sel quality c).state = .acquiring
      ∧ resumedState p sel quality c = { c with gen := { c.gen with elapsed := 0 }, state := .acquiring, grade := 4, hops := 15 } := by
  obtain ⟨hrunning, -, -, hremembered, hidle, hnot, hvalid, -, hlearned, -⟩ := h
  have hstopped : c.gen.running = false := by rw [hrunning, hhalted]; rfl
  unfold resumedState
  dsimp only
  split
  · rename_i hst
    left
    have hv := hvalid _ hst rfl
    split
    · exact ⟨hstopped, rfl, hv, gradeFollowsState_lockedGrade quality rfl, hlearned⟩
    · exact working_noSourcePath p sel.source .locked hv hlearned
  · exact .inr ⟨rfl, rfl⟩
  · rename_i hst
    left
    have hv := hvalid _ hst rfl
    split
    · exact working_noSourcePath p sel.source .master hv hlearned
    · exact working_enterGenerating p rfl hv hlearned
  · rename_i st hlocked hacquiring hmaster hst
    left
    have hc : counting st = true := by
      cases st with
      | locked => rfl
      | holdover => rfl
      | free => rfl
      | master => rfl
      | idle => exact absurd hst hidle
      | halted => exact absurd hst hnot
      | acquiring => exact absurd rfl hacquiring
    exact working_noSourcePath p sel.source st (hvalid _ hst hc) hlearned
  · rename_i hnone
    have := hremembered.mpr hhalted
    rw [hnone] at this
    cases this

theorem resumedState_moves (p : Plan) (sel : Selection) (quality : Option Quality) (c : Core) : MovesOnly c (resumedState p sel quality c) := by
  have h0 : MovesOnly c { c with gen := { c.gen with elapsed := 0 } } := rfl
  unfold resumedState
  dsimp only
  split
  · split
    · rfl
    · exact h0.trans (movesOnly_noSourcePath _ _ _ _)
  · rfl
  · split
    · exact h0.trans (movesOnly_noSourcePath _ _ _ _)
    · exact h0.trans (movesOnly_enterGenerating _ _ _)
  · exact h0.trans (movesOnly_noSourcePath _ _ _ _)
  · exact h0.trans (movesOnly_noSourcePath _ _ _ _)

theorem coreInv_releasedCore (p : Plan) (sel : Selection) (quality : Option Quality) {c : Core} (h : CoreInv c) (hhalted : c.state = .halted) :
    CoreInv (releasedCore p sel quality c) := by
  have hmoves := resumedState_moves p sel quality c
  have hwork : (resumedState p sel quality c).syncWork = none := hmoves.syncWork.trans h.noSyncWork
  obtain hw | ⟨-, heq⟩ := resumedState_cases p sel quality h hhalted
  · refine Working.coreInv ⟨hw.running, hw.counting, hw.valid, hw.grade, hw.learned⟩ rfl ?_ hwork
    change (resumedState p sel quality c).record.valid = true
    rw [hmoves.record]
    exact h.recordValid (hmoves.valid ▸ hw.valid)
  · have hstopped : c.gen.running = false := by rw [h.running_eq, hhalted]; rfl
    have hcarry : carryingSync { c with gen := { c.gen with elapsed := 0 }, state := .acquiring, grade := 4, hops := 15 } = c.syncIndex + 2 := by
      simp [carryingSync, h.noSyncWork]
    unfold releasedCore setRealign
    rw [heq, hcarry]
    refine ⟨hstopped, nofun, h.recordValid, ⟨nofun, nofun⟩, nofun, nofun, nofun, rfl, h.learned_le, nofun, h.noSyncWork, fun _ heq => ?_⟩
    have h21 : c.syncIndex + 2 = c.syncIndex + 1 := Option.some.inj heq
    bv_omega

/-! ## Takeover -/

/-- A core in takeover is MASTER, or HALTED from MASTER, under a BACKUP plan, and no core under an active plan is IDLE (R12, R57, R65). -/
def CoreServes (p : Plan) (c : Core) : Prop :=
  (c.takeover = true → (c.state = .master ∨ (c.state = .halted ∧ c.remembered = some .master)) ∧ p.role = .backup) ∧ c.state ≠ .idle

theorem CoreServes.congr {p : Plan} {c d : Core} (h : CoreServes p c) (hstate : d.state = c.state) (htakeover : d.takeover = c.takeover)
    (hremembered : d.remembered = c.remembered) : CoreServes p d := by
  unfold CoreServes at h ⊢
  rwa [hstate, htakeover, hremembered]

theorem coreServes_of_no_takeover {p : Plan} {c : Core} (h : c.takeover = false) (hidle : c.state ≠ .idle) : CoreServes p c :=
  ⟨fun ht => absurd (h.symm.trans ht) (by decide), hidle⟩

theorem coreServes_takeOver {p : Plan} (c : Core) (hrole : p.role = .backup) : CoreServes p (takeOver p c) :=
  ⟨fun _ => ⟨.inl (takeOver_state p c), hrole⟩, by rw [takeOver_state]; decide⟩

theorem carryOn_takeover (p : Plan) (was : CoreState) (c : Core) : (carryOn p was c).takeover = c.takeover := by
  rw [carryOn_eq]

theorem carryOn_state_ne_idle (p : Plan) (was : CoreState) (c : Core) : (carryOn p was c).state ≠ .idle := by
  rw [carryOn_eq]
  dsimp only
  obtain h | h := aloneState_state was c.learned.length c.holdoverCount <;> rw [h] <;> decide

theorem coreServes_noSourcePath {p : Plan} (source : Option LinkNo) (was : CoreState) {c : Core} (h : c.takeover = true → p.role = .backup) :
    CoreServes p (noSourcePath p source was c) := by
  unfold noSourcePath
  split
  · exact coreServes_of_no_takeover (enterGenerating_takeover p .master _) (by rw [enterGenerating_state]; decide)
  · rename_i hrole
    exact coreServes_takeOver c hrole
  · rename_i hrole
    split
    · exact ⟨fun _ => ⟨.inl (enterGenerating_state p .master c), hrole⟩, by rw [enterGenerating_state]; decide⟩
    · rename_i hnot
      exact coreServes_of_no_takeover ((carryOn_takeover p was c).trans (Bool.not_eq_true _ ▸ hnot)) (carryOn_state_ne_idle p was c)
  · rename_i hrole
    refine ⟨fun ht => ?_, carryOn_state_ne_idle p was c⟩
    rw [carryOn_takeover] at ht
    rw [hrole] at h
    cases h ht

theorem coreServes_afterSelection {p : Plan} (source : Option LinkNo) {c : Core} (h : CoreServes p c) : CoreServes p (afterSelection p source c) := by
  unfold afterSelection
  split
  · exact coreServes_noSourcePath source .locked fun ht => (h.1 ht).2
  · split
    · rename_i hrole
      exact coreServes_takeOver c hrole.1
    · exact h
  · split
    · rename_i hrole
      exact coreServes_takeOver c hrole.1
    · exact h
  all_goals exact h

/-- A change of active plan settles the takeover of a counting core, whatever it was before (R13, R73). -/
theorem coreServes_afterPlanChange (p : Plan) (sel : Selection) {c : Core} (hc : counting c.state = true) : CoreServes p (afterPlanChange p sel c) := by
  have hidle : c.state ≠ .idle := by rintro h; rw [h] at hc; cases hc
  have halone : CoreServes p (if c.state = .locked ∧ sel.source.isSome ∧ sel.joined then { c with takeover := false }
      else noSourcePath p sel.source c.state { c with takeover := false }) := by
    split
    · exact coreServes_of_no_takeover rfl hidle
    · exact coreServes_noSourcePath sel.source c.state nofun
  unfold afterPlanChange
  split
  · rename_i hst
    exact absurd hst hidle
  · rename_i hst
    rw [hst] at hc
    cases hc
  · split
    · exact coreServes_of_no_takeover (enterGenerating_takeover p .master _) (by rw [enterGenerating_state]; decide)
    · exact halone
    · exact halone

theorem coreServes_haltedCore {p : Plan} {c : Core} (h : CoreServes p c) (hhalted : c.state ≠ .halted) : CoreServes p (haltedCore c) := by
  refine ⟨fun ht => ?_, nofun⟩
  obtain ⟨hmaster | ⟨hst, -⟩, hrole⟩ := h.1 ht
  · exact ⟨.inr ⟨rfl, congrArg some hmaster⟩, hrole⟩
  · exact absurd hst hhalted

theorem coreServes_resumedState {p : Plan} (sel : Selection) (quality : Option Quality) {c : Core} (h : CoreServes p c) (hhalted : c.state = .halted) :
    CoreServes p (resumedState p sel quality c) := by
  have hmaster : c.takeover = true → c.remembered = some .master := by
    intro ht
    obtain ⟨hst | ⟨-, hr⟩, -⟩ := h.1 ht
    · rw [hhalted] at hst
      cases hst
    · exact hr
  have hnot : ∀ {st : CoreState}, c.remembered = some st → st ≠ .master → c.takeover = false := by
    intro st hst hne
    by_contra ht
    rw [Bool.not_eq_false] at ht
    exact hne (Option.some.inj (hst.symm.trans (hmaster ht)))
  unfold resumedState
  dsimp only
  split
  · rename_i hst
    split
    · exact coreServes_of_no_takeover (hnot hst (by decide)) (by simp [lockedGrade])
    · exact coreServes_noSourcePath _ _ fun ht => (h.1 ht).2
  · rename_i hst
    exact coreServes_of_no_takeover (hnot hst (by decide)) (by simp [ownGrade])
  · split
    · exact coreServes_noSourcePath _ _ fun ht => (h.1 ht).2
    · rename_i hno
      exact coreServes_of_no_takeover ((enterGenerating_takeover _ _ _).trans (by simpa using hno)) (by rw [enterGenerating_state]; decide)
  · exact coreServes_noSourcePath _ _ fun ht => (h.1 ht).2
  · exact coreServes_noSourcePath _ _ fun ht => (h.1 ht).2

/-- After a release the takeover still stands only in MASTER under a BACKUP plan. -/
theorem coreServes_releasedCore {p : Plan} (sel : Selection) (quality : Option Quality) {c : Core} (h : CoreServes p c) (hinv : CoreInv c)
    (hhalted : c.state = .halted) : CoreServes p (releasedCore p sel quality c) := by
  obtain ⟨htakeover, hidle⟩ := coreServes_resumedState sel quality h hhalted
  have hnot : (resumedState p sel quality c).state ≠ .halted := by
    obtain hw | ⟨hst, -⟩ := resumedState_cases p sel quality hinv hhalted
    · intro hst
      have hc := hw.counting
      rw [hst] at hc
      cases hc
    · rw [hst]
      decide
  refine ⟨fun ht => ?_, hidle⟩
  obtain ⟨hst | ⟨hst, -⟩, hrole⟩ := htakeover ht
  · exact ⟨.inl hst, hrole⟩
  · exact absurd hst hnot

theorem coreServes_startedCore (p : Plan) (start : Option Time) (c : Core) : CoreServes p (startedCore p start c) := by
  unfold startedCore
  cases start with
  | none => exact coreServes_of_no_takeover rfl nofun
  | some v =>
    dsimp only
    split
    · exact coreServes_of_no_takeover (enterGenerating_takeover _ _ _) (by rw [enterGenerating_state]; decide)
    · rename_i hrole
      exact ⟨fun _ => ⟨.inl (enterGenerating_state _ _ _), hrole⟩, by rw [enterGenerating_state]; decide⟩
    · exact coreServes_of_no_takeover (enterGenerating_takeover _ _ _) (by rw [enterGenerating_state]; decide)

end Sys2Proof.Machine
end

section
/-! SUPPORT. The core and the plan at every step (R12, R14, R23, R46, R57, R67): what leaves the standing of the core, the plan, the links and the selection, and what each
change of them keeps of their invariants. -/

namespace Sys2Proof.Machine

/-! ## What leaves the standing of the part -/

/-- The core stands alike: state, takeover, remembered state, validity, grade and hops, learned record, and whether the generator runs. -/
def CoreStands (c d : Core) : Prop :=
  d.state = c.state ∧ d.takeover = c.takeover ∧ d.remembered = c.remembered ∧ d.valid = c.valid ∧ d.grade = c.grade ∧ d.hops = c.hops
    ∧ d.learned = c.learned ∧ d.gen.running = c.gen.running

theorem CoreStands.refl (c : Core) : CoreStands c c := ⟨rfl, rfl, rfl, rfl, rfl, rfl, rfl, rfl⟩

theorem CoreStands.trans {c d e : Core} (h : CoreStands c d) (k : CoreStands d e) : CoreStands c e := by
  unfold CoreStands at *
  obtain ⟨a, b, f, g, i, j, l, m⟩ := h
  rwa [a, b, f, g, i, j, l, m] at k

/-- The core, the active plan, the selection, and each link's direction and qualifier state stand alike. -/
structure SameStanding (s t : State) : Prop where
  core : CoreStands s.core t.core
  active : t.plans.active = s.plans.active
  plan : activePlan t = activePlan s
  sel : t.sel = s.sel
  dir : ∀ l, (link l t).dir = (link l s).dir
  qual : ∀ l, (link l t).qual.state = (link l s).qual.state

namespace SameStanding

theorem refl (s : State) : SameStanding s s := ⟨.refl _, rfl, rfl, rfl, fun _ => rfl, fun _ => rfl⟩

theorem trans {s t u : State} (h : SameStanding s t) (k : SameStanding t u) : SameStanding s u :=
  ⟨h.core.trans k.core, k.active.trans h.active, k.plan.trans h.plan, k.sel.trans h.sel, fun l => (k.dir l).trans (h.dir l),
    fun l => (k.qual l).trans (h.qual l)⟩

theorem foldl {α : Type} {f : State → α → State} (h : ∀ s x, SameStanding s (f s x)) (l : List α) (s : State) : SameStanding s (l.foldl f s) := by
  induction l generalizing s with
  | nil => exact .refl s
  | cons x xs ih => exact (h s x).trans (ih _)

/-- A write that leaves the plan records, the selection and the links. -/
theorem of_core {s t : State} (hcore : CoreStands s.core t.core) (hactive : t.plans.active = s.plans.active)
    (hrecords : t.plans.records = s.plans.records) (hsel : t.sel = s.sel) (hlinks : t.links = s.links) : SameStanding s t :=
  ⟨hcore, hactive, by rw [activePlan, activePlan, hactive, hrecords], hsel, fun l => by rw [link_congr hlinks], fun l => by rw [link_congr hlinks]⟩

end SameStanding

/-- A core written that stands alike. -/
theorem sameStanding_setCore {c : Core} {s : State} (h : CoreStands s.core c) : SameStanding s (setCore c s) := .of_core h rfl rfl rfl rfl

theorem sameStanding_raise (n : Notice) (s : State) : SameStanding s (raise n s) := .of_core (.refl _) rfl rfl rfl rfl
theorem sameStanding_raiseFault (c : FaultCause) (s : State) : SameStanding s (raiseFault c s) := sameStanding_raise _ s
theorem sameStanding_raiseTime (p : CoreState) (j : Option Time) (s : State) : SameStanding s (raiseTime p j s) := sameStanding_raise _ s
theorem sameStanding_raiseLink (l : LinkNo) (p : QualState) (c : LinkCause) (s : State) : SameStanding s (raiseLink l p c s) := sameStanding_raise _ s
theorem sameStanding_raisePlan (p : Option PlanNo) (c : PlanCause) (i : SyncIndex) (s : State) : SameStanding s (raisePlan p c i s) :=
  sameStanding_raise _ s
theorem sameStanding_raiseItem (e : Entry) (o : Ending) (s : State) : SameStanding s (raiseItem e o s) := sameStanding_raise _ s

/-- A link written with its direction and its qualifier's state kept. -/
theorem sameStanding_setLink {l : LinkNo} {u : LinkUnit} {s : State} (hdir : u.dir = (link l s).dir) (hqual : u.qual.state = (link l s).qual.state) :
    SameStanding s (setLink l u s) := by
  refine ⟨.refl _, rfl, rfl, rfl, fun m => ?_, fun m => ?_⟩
  all_goals
    rw [link_setLink]
    split
    · rename_i hm
      rw [hm]
      assumption
    · rfl

theorem sameStanding_setRx (l : LinkNo) (rx : Receiver) (s : State) : SameStanding s (setRx l rx s) := sameStanding_setLink rfl rfl

theorem sameStanding_setQual {l : LinkNo} {q : Qualifier} {s : State} (h : q.state = (link l s).qual.state) : SameStanding s (setQual l q s) :=
  sameStanding_setLink rfl h

theorem sentOn_dir (m : Mark) (u : LinkUnit) : (sentOn m u).dir = u.dir := by unfold sentOn; split <;> rfl
theorem sentOn_qual (m : Mark) (u : LinkUnit) : (sentOn m u).qual = u.qual := by unfold sentOn; split <;> rfl

theorem emit_eq (m : Mark) (s : State) : emit m s = { s with links := (emit m s).links } := by unfold emit; split <;> rfl
@[simp] theorem emit_core (m : Mark) (s : State) : (emit m s).core = s.core := by rw [emit_eq]

theorem sameStanding_emit (m : Mark) (s : State) : SameStanding s (emit m s) := by
  have h := emit_eq m s
  refine ⟨by rw [emit_core]; exact .refl _, by rw [h], by rw [h]; rfl, by rw [h], fun l => ?_, fun l => ?_⟩
  all_goals
    rw [link_emit]
    split
    · first | exact sentOn_dir _ _ | rw [sentOn_qual]
    · rfl

theorem sameStanding_compose (s : State) : SameStanding s (compose s) := by
  unfold compose
  split
  · exact .of_core (.refl _) rfl rfl rfl rfl
  · exact .refl s

theorem sameStanding_composeIfDue (s : State) : SameStanding s (composeIfDue s) := by
  unfold composeIfDue
  split
  · exact sameStanding_compose s
  · exact .refl s

@[simp] theorem compose_core (s : State) : (compose s).core = s.core := by unfold compose; split <;> rfl
@[simp] theorem composeIfDue_core (s : State) : (composeIfDue s).core = s.core := by unfold composeIfDue; split <;> simp

theorem sameStanding_takeJump (v : Time) (s : State) : SameStanding s (takeJump v s) :=
  .of_core ⟨rfl, rfl, rfl, rfl, rfl, rfl, rfl, rfl⟩ rfl rfl rfl rfl

theorem sameStanding_timeCheck (p : Plan) (v : Time) (s : State) : SameStanding s (timeCheck p v s) := by
  unfold timeCheck
  split
  · exact .refl s
  · split
    · exact sameStanding_raiseFault _ s
    · exact sameStanding_takeJump v s

theorem sameStanding_realign (v : Option Time) (s : State) : SameStanding s (realign v s) := by
  have hpending : ∀ b, SameStanding s (setCore { s.core with realignPending := b } s) := fun b =>
    sameStanding_setCore ⟨rfl, rfl, rfl, rfl, rfl, rfl, rfl, rfl⟩
  unfold realign
  split
  · exact hpending true
  · dsimp only
    split
    · exact hpending false
    · exact (hpending false).trans (sameStanding_takeJump _ _)

theorem sameStanding_reportJoin (c : SyncCause) (p : CoreState) (a b : Time) (s : State) : SameStanding s (reportJoin c p a b s) := by
  unfold reportJoin
  split
  · exact sameStanding_raiseTime _ _ s
  · exact .refl s
  · exact .refl s

@[simp] theorem reportJoin_core (c : SyncCause) (p : CoreState) (a b : Time) (s : State) : (reportJoin c p a b s).core = s.core := by
  unfold reportJoin
  split <;> rfl

theorem sameStanding_beginSync (s : State) : SameStanding s (beginSync s) := .of_core ⟨rfl, rfl, rfl, rfl, rfl, rfl, rfl, rfl⟩ rfl rfl rfl rfl

theorem sameStanding_recordFinal (s : State) : SameStanding s (recordFinal s) := .of_core ⟨rfl, rfl, rfl, rfl, rfl, rfl, rfl, rfl⟩ rfl rfl rfl rfl

theorem sameStanding_applyEntry (acc : Firing × State) (e : Entry) : SameStanding acc.2 (applyEntry acc e).2 := by
  unfold applyEntry
  dsimp only
  split
  · exact sameStanding_setCore ⟨rfl, rfl, rfl, rfl, rfl, rfl, rfl, rfl⟩
  · split
    · exact .refl _
    · exact .of_core (.refl _) rfl rfl rfl rfl
  · exact .of_core (.refl _) rfl rfl rfl rfl

theorem sameStanding_applyEntries (es : List Entry) (acc : Firing × State) : SameStanding acc.2 (es.foldl applyEntry acc).2 := by
  induction es generalizing acc with
  | nil => exact .refl _
  | cons e es ih => exact (sameStanding_applyEntry acc e).trans (ih _)

theorem sameStanding_reportLoads (v : Time) (b : Bool) (s : State) : SameStanding s (reportLoads v b s) := by
  unfold reportLoads
  split
  · exact .refl s
  · dsimp only
    split
    · exact .of_core ⟨rfl, rfl, rfl, rfl, rfl, rfl, rfl, rfl⟩ rfl rfl rfl rfl
    · exact sameStanding_raiseTime _ _ s

theorem sameStanding_reportFiring (o : List (Nat × Ending)) (es : List Entry) (s : State) : SameStanding s (reportFiring o es s) :=
  .foldl (fun s e => by
    split
    · exact sameStanding_raiseItem _ _ s
    · exact .refl s) es s

theorem sameStanding_setSched (c : Schedule) (s : State) : SameStanding s { s with sched := c } := .of_core (.refl _) rfl rfl rfl rfl

theorem sameStanding_fire (v : Time) (r : SyncRecord) (sps : Nat) (s : State) : SameStanding s (fire v r sps s) := by
  unfold fire
  extract_lets es start out outcomes s1 queue s2
  have h1 : SameStanding s s1 := (sameStanding_applyEntries es (start, s)).trans (sameStanding_reportLoads v out.1.localLoad out.2)
  exact (h1.trans (sameStanding_setSched _ s1)).trans (sameStanding_reportFiring outcomes es s2)

theorem sameStanding_countPlain (s : State) : SameStanding s (countPlain s) := by
  unfold countPlain
  refine .trans (sameStanding_composeIfDue s) (.trans ?_ (sameStanding_emit _ _))
  exact .of_core ⟨rfl, rfl, rfl, rfl, rfl, rfl, rfl, rfl⟩ rfl rfl rfl rfl

theorem sameStanding_keepPassing (s : State) : SameStanding s (keepPassing s) := .of_core (.refl _) rfl rfl rfl rfl

theorem sameStanding_transmit (s : State) : SameStanding s (transmit s) :=
  .of_core (by rw [transmit_core]; exact .refl _) (by rw [transmit_plans]) (by rw [transmit_plans]) (transmit_sel s) (transmit_links s)

theorem sameStanding_receiveOrder (l : LinkNo) (o : Order) (s : State) : SameStanding s (receiveOrder l o s) := by
  unfold receiveOrder
  split
  · exact .refl s
  · split
    · exact sameStanding_raiseFault _ s
    · split
      · exact sameStanding_raiseFault _ s
      · exact sameStanding_setSched _ s

theorem sameStanding_closeInterval (l : LinkNo) (b : Option Byte) (s : State) : SameStanding s (closeInterval l b s) := by
  have h : SameStanding s (if (link l s).rx.msg = [] then s else raiseFault .linkMessage (setRx l { (link l s).rx with msg := [] } s)) := by
    split
    · exact .refl s
    · exact (sameStanding_setRx l _ s).trans (sameStanding_raiseFault _ _)
  unfold closeInterval
  dsimp only
  split
  · exact h.trans (sameStanding_raiseFault _ _)
  · exact h

theorem sameStanding_followPosition (k : MarkKind) (s : State) : SameStanding s (followPosition k s) := by
  unfold followPosition
  split
  · exact sameStanding_setCore ⟨rfl, rfl, rfl, rfl, rfl, rfl, rfl, rfl⟩
  · exact .refl s

/-! ## A plan in force -/

/-- The plan is active, the links have its directions, qualifiers are OFF exactly where a link is not RECEIVE, and no joined flag stands without a source. -/
structure LinksServe (p : Plan) (s : State) : Prop where
  active : activePlan s = some p
  dirs : ∀ l, (link l s).dir = p.dirs.get l
  quals : ∀ l, (link l s).qual.state = .off ↔ (link l s).dir ≠ .receive
  joined : s.sel.joined = true → s.sel.source.isSome

/-- A selected source is VALID or SUSPECT. -/
def SourceFit (s : State) : Prop := ∀ l, s.sel.source = some l → (link l s).qual.state = .valid ∨ (link l s).qual.state = .suspect

/-- A plan is in force outside IDLE, with the links, the selection and the takeover in accord with it: `PlanInv` outside IDLE. -/
def Runs (s : State) : Prop := ∃ p, LinksServe p s ∧ SourceFit s ∧ CoreServes p s.core

theorem LinksServe.of_sameStanding {p : Plan} {s t : State} (h : LinksServe p s) (k : SameStanding s t) : LinksServe p t :=
  ⟨k.plan.trans h.active, fun l => (k.dir l).trans (h.dirs l), fun l => by rw [k.qual, k.dir]; exact h.quals l, by rw [k.sel]; exact h.joined⟩

theorem SourceFit.of_sameStanding {s t : State} (h : SourceFit s) (k : SameStanding s t) : SourceFit t := fun l hl => by
  rw [k.qual]
  exact h l (k.sel ▸ hl)

theorem CoreServes.of_coreStands {p : Plan} {c d : Core} (h : CoreServes p c) (k : CoreStands c d) : CoreServes p d := by
  obtain ⟨hstate, htakeover, hremembered, -⟩ := k
  exact h.congr hstate htakeover hremembered

theorem Runs.of_sameStanding {s t : State} (h : Runs s) (k : SameStanding s t) : Runs t := by
  obtain ⟨p, hlinks, hsource, hcore⟩ := h
  exact ⟨p, hlinks.of_sameStanding k, hsource.of_sameStanding k, hcore.of_coreStands k.core⟩

theorem Working.of_coreStands {c d : Core} (h : Working c) (k : CoreStands c d) : Working d := by
  obtain ⟨hstate, htakeover, -, hvalid, hgrade, hhops, hlearned, hrunning⟩ := k
  obtain ⟨r, n, v, g, l⟩ := h
  refine ⟨?_, ?_, ?_, ?_, ?_⟩
  · rwa [hrunning, hstate]
  · rwa [hstate]
  · rwa [hvalid]
  · unfold GradeFollowsState at g ⊢
    rwa [hstate, htakeover, hgrade, hhops]
  · rwa [hlearned]

theorem planInv_of_runs {s : State} (h : Runs s) : PlanInv s := by
  obtain ⟨p, hlinks, hsource, htakeover, hidle⟩ := h
  have hactive := hlinks.active
  unfold activePlan at hactive
  obtain ⟨i, hi, hrecord⟩ := Option.bind_eq_some_iff.mp hactive
  refine ⟨⟨fun h => absurd h hidle, fun h => by rw [hi] at h; cases h⟩, fun j hj => ?_, fun l => ?_, hlinks.quals, hsource, hlinks.joined, fun ht => ?_,
    fun h => absurd h hidle⟩
  · obtain rfl : i = j := Option.some.inj (hi.symm.trans hj)
    rw [hrecord]
    rfl
  · rw [hlinks.active]
    exact hlinks.dirs l
  · obtain ⟨hstate, hrole⟩ := htakeover ht
    exact ⟨hstate, by rw [hlinks.active, Option.map_some, hrole]⟩

theorem runs_of_planInv {s : State} (h : PlanInv s) (hidle : s.core.state ≠ .idle) : Runs s := by
  obtain ⟨hactive, hloaded, hdirs, hquals, hsource, hjoined, htakeover, -⟩ := h
  obtain ⟨i, hi⟩ : ∃ i, s.plans.active = some i := Option.ne_none_iff_exists'.mp fun hn => hidle (hactive.mpr hn)
  obtain ⟨p, hp⟩ := Option.isSome_iff_exists.mp (hloaded i hi)
  have hplan : activePlan s = some p := by rw [activePlan, hi]; exact hp
  refine ⟨p, ⟨hplan, fun l => ?_, hquals, hjoined⟩, hsource, fun ht => ?_, hidle⟩
  · have := hdirs l
    rwa [hplan] at this
  · obtain ⟨hstate, hrole⟩ := htakeover ht
    rw [hplan] at hrole
    exact ⟨hstate, Option.some.inj hrole⟩

/-! ## Selection and qualifiers -/

/-- The invariants outside the work of a sync. `plan` asks for the plan's, so that one lemma serves the core's invariant alone and both together. -/
def Stands (plan : Prop) (s : State) : Prop := CoreInv s.core ∧ (plan → Runs s)

variable {plan : Prop}

/-- A step that leaves the core's whole invariant and the standing of the part. -/
theorem Stands.of_sameStanding {s t : State} (h : Stands plan s) (hcore : t.core = s.core) (k : SameStanding s t) : Stands plan t :=
  ⟨hcore ▸ h.1, fun hp => (h.2 hp).of_sameStanding k⟩

theorem find_usable_fit {p : Plan} {s : State} {ls : List LinkNo} {l : LinkNo} (h : ls.find? (usable p s) = some l) :
    (link l s).qual.state = .valid ∨ (link l s).qual.state = .suspect := by
  obtain ⟨-, -, hstate, -⟩ := (usable_iff p s l).mp (List.find?_some h)
  exact hstate.imp id And.left

/-- What a re-evaluation chooses is VALID or SUSPECT (R66, R69, R70). -/
theorem choose_fit {p : Plan} {s : State} {l : LinkNo} (h : choose p s = some l) :
    (link l s).qual.state = .valid ∨ (link l s).qual.state = .suspect := by
  unfold choose at h
  dsimp only at h
  split at h
  · exact find_usable_fit h
  · split at h
    · split at h
      · rename_i m _ hm
        obtain rfl := Option.some.inj h
        obtain ⟨-, -, hstate, -⟩ := (usable_iff p s m).mp hm
        exact hstate.imp id And.left
      · exact find_usable_fit h
    · exact find_usable_fit h

theorem reevaluate_same {p : Plan} {s : State} (hactive : activePlan s = some p) (h : choose p s = s.sel.source) : reevaluate s = s := by
  rw [reevaluate, hactive]
  exact if_pos h

theorem reevaluate_changed {p : Plan} {s : State} (hactive : activePlan s = some p) (h : choose p s ≠ s.sel.source) :
    reevaluate s = select p (choose p s) s := by
  rw [reevaluate, hactive]
  exact if_neg h

/-- A re-evaluation under a plan leaves a selected source that is fit, and the links as they serve the plan. -/
theorem linksServe_reevaluate {p : Plan} {s : State} (h : LinksServe p s) : LinksServe p (reevaluate s) ∧ SourceFit (reevaluate s) := by
  by_cases hchoose : choose p s = s.sel.source
  · rw [reevaluate_same h.active hchoose]
    exact ⟨h, fun l hl => choose_fit (hchoose.trans hl)⟩
  · rw [reevaluate_changed h.active hchoose]
    exact ⟨⟨h.active, h.dirs, h.quals, nofun⟩, fun _ hl => choose_fit (s := s) hl⟩

/-- The core after a re-evaluation: as it was, or with its response to the new selection (R72). -/
theorem reevaluate_core (s : State) : (reevaluate s).core = s.core ∨ ∃ p source, (reevaluate s).core = afterSelection p source s.core := by
  unfold reevaluate
  split
  · exact .inl rfl
  · split
    · exact .inl rfl
    · exact .inr ⟨_, _, rfl⟩

theorem coreServes_reevaluate {p : Plan} {s : State} (hactive : activePlan s = some p) (h : CoreServes p s.core) : CoreServes p (reevaluate s).core := by
  by_cases hchoose : choose p s = s.sel.source
  · rwa [reevaluate_same hactive hchoose]
  · rw [reevaluate_changed hactive hchoose]
    exact coreServes_afterSelection _ h

theorem coreInv_reevaluate {s : State} (h : CoreInv s.core) : CoreInv (reevaluate s).core := by
  obtain heq | ⟨p, source, heq⟩ := reevaluate_core s <;> rw [heq]
  · exact h
  · exact coreInv_afterSelection p source h

theorem stands_reevaluate {s : State} (h : CoreInv s.core) (hplan : plan → ∃ p, LinksServe p s ∧ CoreServes p s.core) :
    Stands plan (reevaluate s) := by
  refine ⟨coreInv_reevaluate h, fun hp => ?_⟩
  obtain ⟨p, hlinks, hcore⟩ := hplan hp
  exact ⟨p, (linksServe_reevaluate hlinks).1, (linksServe_reevaluate hlinks).2, coreServes_reevaluate hlinks.active hcore⟩

/-- A link whose qualifier changes: its qualifier as given, and its records cleared on entry to FAILED or SEEK (R174). -/
theorem link_changeQual (l m : LinkNo) (q : Qualifier) (c : LinkCause) (s : State) :
    link m (changeQual l q c s) = if m = l then
      { link l s with qual := q, rx := if q.state = .failed ∨ q.state = .seek then clearRecords (link l s).rx else (link l s).rx }
      else link m s := by
  unfold changeQual
  dsimp only
  split
  · rw [link_setRx]
    split
    · rw [link_raiseLink, link_reevaluate, link_setQual_self]
    · rename_i hm
      rw [link_raiseLink, link_reevaluate, link_setQual, if_neg hm]
  · rw [link_raiseLink, link_reevaluate, link_setQual]

theorem stands_changeQual {l : LinkNo} {q : Qualifier} {s : State} (c : LinkCause) (h : Stands plan s) (hq : q.state ≠ .off)
    (hl : (link l s).qual.state ≠ .off) : Stands plan (changeQual l q c s) := by
  have hset : Stands plan (reevaluate (setQual l q s)) := by
    refine stands_reevaluate h.1 fun hp => ?_
    obtain ⟨p, hlinks, -, hcore⟩ := h.2 hp
    refine ⟨p, ⟨hlinks.active, fun m => ?_, fun m => ?_, hlinks.joined⟩, hcore⟩
    · rw [← hlinks.dirs m, link_setQual]
      split
      · rename_i hm
        rw [hm]
      · rfl
    · rw [link_setQual]
      split
      · have hdir := (hlinks.quals l).not.mp hl
        exact ⟨fun hoff => absurd hoff hq, fun hoff => absurd hoff hdir⟩
      · exact hlinks.quals m
  have hraised : Stands plan (raiseLink l (link l s).qual.state c (reevaluate (setQual l q s))) :=
    hset.of_sameStanding rfl (sameStanding_raiseLink l (link l s).qual.state c _)
  unfold changeQual
  dsimp only
  split
  · exact hraised.of_sameStanding rfl (sameStanding_setRx l _ _)
  · exact hraised

theorem stands_failLink {l : LinkNo} {s : State} (q : Qualifier) (c : LinkCause) (h : Stands plan s) (hl : (link l s).qual.state ≠ .off) :
    Stands plan (failLink l q c s) := by
  have hfailed : Stands plan (changeQual l (failQual (link l s).holdoff q) c s) := stands_changeQual c h nofun hl
  unfold failLink
  dsimp only
  split
  · refine stands_changeQual _ hfailed nofun ?_
    rw [link_changeQual, if_pos rfl]
    exact nofun
  · exact hfailed

theorem stands_setQual {l : LinkNo} {q : Qualifier} {s : State} (h : Stands plan s) (hq : q.state = (link l s).qual.state) :
    Stands plan (setQual l q s) := h.of_sameStanding rfl (sameStanding_setQual hq)

theorem stands_onGood (p : Plan) {l : LinkNo} {q : Qualifier} {s : State} (h : Stands plan s) (hq : q.state = (link l s).qual.state) :
    Stands plan (onGood p l q s) := by
  unfold onGood
  dsimp only
  split
  · rename_i hst
    split
    · exact stands_changeQual _ h nofun (by rw [← hq, hst]; decide)
    · exact stands_setQual h hq
  · rename_i hst
    split
    · exact stands_changeQual _ h nofun (by rw [← hq, hst]; decide)
    · exact stands_setQual h hq
  all_goals exact stands_setQual h hq

theorem stands_onBad (p : Plan) {l : LinkNo} (c : LinkCause) {q : Qualifier} {s : State} (h : Stands plan s) (hq : q.state = (link l s).qual.state) :
    Stands plan (onBad p l c q s) := by
  unfold onBad
  dsimp only
  split
  · rename_i hst
    exact stands_changeQual _ h nofun (by rw [← hq, hst]; decide)
  · rename_i hst
    split
    · exact stands_failLink _ _ h (by rw [← hq, hst]; decide)
    · exact stands_setQual h hq
  all_goals exact stands_setQual h hq

theorem stands_qualifyMark (p : Plan) (l : LinkNo) (k : MarkKind) {s : State} (h : Stands plan s) : Stands plan (qualifyMark p l k s) := by
  unfold qualifyMark
  dsimp only
  split
  · exact h
  · exact h
  · rename_i hst
    exact stands_changeQual _ h nofun (by rw [hst]; decide)
  all_goals
    split
    · exact stands_onGood p h rfl
    · exact stands_onBad p _ h rfl

theorem stands_expireLoss (l : LinkNo) {s : State} (h : Stands plan s) : Stands plan (expireLoss l s) := by
  unfold expireLoss
  dsimp only
  split
  · rename_i hst
    exact stands_changeQual _ h nofun (by rw [hst]; decide)
  · rename_i hst
    exact stands_failLink _ _ h (by rw [hst]; decide)
  · rename_i hst
    exact stands_failLink _ _ h (by rw [hst]; decide)
  all_goals exact h

/-! ## Receiving -/

theorem stands_coreQuality (l : LinkNo) {s : State} (h : Stands plan s) : Stands plan (coreQuality l s) := by
  unfold coreQuality
  split
  · rename_i hlocked
    have hset : Stands plan (setCore (lockedGrade (latestQuality (link l s).rx) s.core) s) := by
      refine ⟨coreInv_lockedGrade _ h.1 hlocked.1, fun hp => ?_⟩
      obtain ⟨p, hlinks, hsource, hcore⟩ := h.2 hp
      exact ⟨p, ⟨hlinks.active, hlinks.dirs, hlinks.quals, hlinks.joined⟩, hsource, hcore.congr rfl rfl rfl⟩
    dsimp only
    split
    · exact hset
    · exact hset.of_sameStanding rfl (sameStanding_raiseTime _ _ _)
  · exact h

theorem stands_updateRx (l : LinkNo) (rx : Receiver) {s : State} (h : Stands plan s) : Stands plan (updateRx l rx s) := by
  have hset : Stands plan (setRx l rx s) := h.of_sameStanding rfl (sameStanding_setRx l rx s)
  unfold updateRx
  dsimp only
  split
  · refine stands_coreQuality l (stands_reevaluate hset.1 fun hp => ?_)
    obtain ⟨p, hlinks, -, hcore⟩ := hset.2 hp
    exact ⟨p, hlinks, hcore⟩
  · exact hset

theorem receiveOrder_core (l : LinkNo) (o : Order) (s : State) : (receiveOrder l o s).core = s.core := by
  unfold receiveOrder
  split
  · rfl
  · split
    · rfl
    · split <;> rfl

theorem stands_acceptMessage (l : LinkNo) (m : LinkMessage) {s : State} (h : Stands plan s) : Stands plan (acceptMessage l m s) := by
  unfold acceptMessage
  dsimp only
  split
  · exact h.of_sameStanding rfl (sameStanding_setLink rfl rfl)
  · exact stands_updateRx l _ h
  · split
    · exact h.of_sameStanding (receiveOrder_core l _ s) (sameStanding_receiveOrder l _ s)
    · exact h

theorem stands_checkMessage (l : LinkNo) (b : List Byte) {s : State} (h : Stands plan s) : Stands plan (checkMessage l b s) := by
  unfold checkMessage
  split
  · exact stands_acceptMessage l _ h
  · exact h.of_sameStanding rfl (sameStanding_raiseFault _ s)

theorem stands_assemble (l : LinkNo) (b : Byte) {s : State} (h : Stands plan s) : Stands plan (assemble l b s) := by
  have hset : ∀ rx, Stands plan (setRx l rx s) := fun rx => h.of_sameStanding rfl (sameStanding_setRx l rx s)
  unfold assemble
  dsimp only
  split
  · split
    · exact h
    · split
      · exact hset _
      · exact (hset _).of_sameStanding rfl (sameStanding_raiseFault _ _)
  · split
    · exact stands_checkMessage l _ (hset _)
    · exact hset _

theorem closeInterval_core (l : LinkNo) (b : Option Byte) (s : State) : (closeInterval l b s).core = s.core := by
  unfold closeInterval
  dsimp only
  split <;> split <;> rfl

theorem stands_closeInterval (l : LinkNo) (b : Option Byte) {s : State} (h : Stands plan s) : Stands plan (closeInterval l b s) :=
  h.of_sameStanding (closeInterval_core l b s) (sameStanding_closeInterval l b s)

theorem stands_finishMark (l : LinkNo) (k : MarkKind) (b : Option Byte) {s : State} (h : Stands plan s) : Stands plan (finishMark l k b s) := by
  unfold finishMark
  split
  · exact h
  · split
    · exact stands_assemble l _ h
    · exact h
    · exact stands_updateRx l _ h

end Sys2Proof.Machine
end

section
/-! SUPPORT. The core and the plan within the work of a sync (R14), at the generator's steps, at marks, at the halt line, and at the start and the stop of the time core. -/

namespace Sys2Proof.Machine

variable {plan : Prop}

/-! ## Plan changes -/

/-- The invariants within the work of a sync: a counting core, and a plan in force. -/
def Works (plan : Prop) (s : State) : Prop := Working s.core ∧ s.core.remembered = none ∧ (plan → Runs s)

theorem Works.of_sameStanding {s t : State} (h : Works plan s) (k : SameStanding s t) : Works plan t := by
  obtain ⟨hworking, hremembered, hruns⟩ := h
  obtain ⟨-, -, hr, -⟩ := k.core
  exact ⟨hworking.of_coreStands k.core, hr.trans hremembered, fun hp => (hruns hp).of_sameStanding k⟩

theorem Stands.works {s : State} (h : Stands plan s) (hc : counting s.core.state = true) : Works plan s :=
  ⟨h.1.working hc, h.1.remembered_of_counting hc, h.2⟩

theorem directedLink_dir (sps : Nat) (d : Direction) (u : LinkUnit) : (directedLink sps d u).dir = d := by
  unfold directedLink keepReceiving enteredLink
  split
  · split <;> assumption
  · split <;> rfl

theorem directedLink_qual_off {sps : Nat} {d : Direction} {u : LinkUnit} (h : u.qual.state = .off ↔ u.dir ≠ .receive) :
    (directedLink sps d u).qual.state = .off ↔ d ≠ .receive := by
  unfold directedLink keepReceiving enteredLink
  split
  · rename_i hd
    subst hd
    split <;> exact h
  · split
    · rename_i hd
      exact ⟨nofun, fun hne => absurd hd hne⟩
    · rename_i hd
      exact ⟨fun _ => hd, fun _ => rfl⟩

theorem activePlan_setDirections (p : Plan) (s : State) : activePlan (setDirections p s) = activePlan s :=
  activePlan_congr (linksAndNotices_setDirections p s).plans

/-- With a plan made active every link serves it, whatever the links served before. -/
theorem linksServe_setDirections {p : Plan} {s : State} (hactive : activePlan s = some p)
    (hquals : ∀ l, (link l s).qual.state = .off ↔ (link l s).dir ≠ .receive) (hjoined : s.sel.joined = true → s.sel.source.isSome) :
    LinksServe p (setDirections p s) := by
  refine ⟨(activePlan_setDirections p s).trans hactive, fun l => ?_, fun l => ?_, ?_⟩
  · rw [link_setDirections, directedLink_dir]
  · rw [link_setDirections, directedLink_dir]
    exact directedLink_qual_off (hquals l)
  · rw [(linksAndNotices_setDirections p s).sel]
    exact hjoined

theorem setDirections_core (p : Plan) (s : State) : (setDirections p s).core = s.core := (linksAndNotices_setDirections p s).core

theorem movesOnly_reevaluate (s : State) : MovesOnly s.core (reevaluate s).core := by
  obtain h | ⟨p, source, h⟩ := reevaluate_core s <;> rw [h]
  · exact .refl _
  · exact movesOnly_afterSelection p source s.core

theorem corePlanChange_core (p : Plan) (before : CoreState) (s : State) : (corePlanChange p before s).core = afterPlanChange p s.sel s.core := by
  unfold corePlanChange
  dsimp only
  split <;> rfl

/-- The plan table with another plan active. -/
def activate (t : PlanNo) (s : State) : State := { s with plans := { s.plans with active := some t } }

theorem switchTo_eq (t : PlanNo) (p : Plan) (s : State) :
    switchTo t p s = corePlanChange p s.core.state (reevaluate (setDirections p (activate t s))) := rfl

theorem movesOnly_reevaluate_setDirections (p : Plan) (s : State) : MovesOnly s.core (reevaluate (setDirections p s)).core := by
  have h := movesOnly_reevaluate (setDirections p s)
  rwa [setDirections_core] at h

theorem movesOnly_switchTo (t : PlanNo) (p : Plan) (s : State) : MovesOnly s.core (switchTo t p s).core := by
  rw [switchTo_eq, corePlanChange_core]
  exact .trans (movesOnly_reevaluate_setDirections p (activate t s)) (movesOnly_afterPlanChange p _ _)

/-! ## The failover controller's outcomes -/

theorem failover_of_none {s : State} (h : s.plans.fallback.find? (eligible s) = none) : failover s = s := by
  rw [failover, h]

theorem failover_of_found {t : PlanNo} {p : Plan} {s : State} (hfound : s.plans.fallback.find? (eligible s) = some t)
    (hrecord : s.plans.records.get t = some p) : failover s =
      raisePlan s.plans.active .failover (setRealign (switchTo t p s).core).syncIndex (setCore (setRealign (switchTo t p s).core) (switchTo t p s)) := by
  simp only [failover, hfound, hrecord, setCore_core]

theorem failover_of_empty {t : PlanNo} {s : State} (hfound : s.plans.fallback.find? (eligible s) = some t)
    (hrecord : s.plans.records.get t = none) : failover s = s := by
  simp only [failover, hfound, hrecord]

/-- The state handed to the failover controller with the held target cleared (R83). -/
def clearHeld (s : State) : State := { s with plans := { s.plans with held := none } }

/-- The failover controller considers failover, or carries out the ordered switch to a held LOADED plan other than the active one (R80, R83). -/
theorem failoverController_cases (st : CoreState) (s : State) : failoverController st s = considerFailover st (clearHeld s)
    ∨ ∃ t p, s.plans.held = some t ∧ s.plans.records.get t = some p ∧ failoverController st s = orderedSwitch t p (clearHeld s) := by
  unfold failoverController
  dsimp only
  split
  · exact .inl rfl
  · rename_i t ht
    split
    · exact .inl rfl
    · split
      · exact .inl rfl
      · rename_i p hp
        exact .inr ⟨t, p, ht, hp, rfl⟩

theorem orderedSwitch_eq (t : PlanNo) (p : Plan) (s : State) :
    orderedSwitch t p s = raisePlan s.plans.active .ordered (switchTo t p s).core.syncIndex (switchTo t p s) := rfl

/-- Failover changes nothing, or is the failover to an eligible LOADED plan (R79 to R81). -/
theorem failover_cases (s : State) : failover s = s ∨ ∃ t p, s.plans.records.get t = some p ∧ failover s =
    raisePlan s.plans.active .failover (setRealign (switchTo t p s).core).syncIndex (setCore (setRealign (switchTo t p s).core) (switchTo t p s)) := by
  cases hfound : s.plans.fallback.find? (eligible s) with
  | none => exact .inl (failover_of_none hfound)
  | some t =>
    cases hrecord : s.plans.records.get t with
    | none => exact .inl (failover_of_empty hfound hrecord)
    | some p => exact .inr ⟨t, p, hrecord, failover_of_found hfound hrecord⟩

theorem considerFailover_cases (st : CoreState) (s : State) : considerFailover st s = s ∨ considerFailover st s = failover s := by
  unfold considerFailover
  split
  · exact .inl rfl
  · split
    · exact .inr rfl
    · exact .inl rfl

theorem movesOnly_failover (s : State) : MovesOnly s.core (failover s).core := by
  obtain h | ⟨t, p, -, h⟩ := failover_cases s <;> rw [h]
  · exact .refl _
  · exact (movesOnly_switchTo t p s).trans (movesOnly_setRealign _)

theorem movesOnly_considerFailover (st : CoreState) (s : State) : MovesOnly s.core (considerFailover st s).core := by
  obtain h | h := considerFailover_cases st s <;> rw [h]
  · exact .refl _
  · exact movesOnly_failover s

theorem movesOnly_failoverController (st : CoreState) (s : State) : MovesOnly s.core (failoverController st s).core := by
  obtain h | ⟨t, p, -, -, h⟩ := failoverController_cases st s <;> rw [h]
  · exact movesOnly_considerFailover st (clearHeld s)
  · rw [orderedSwitch_eq, raisePlan_core]
    exact movesOnly_switchTo t p (clearHeld s)

theorem working_reevaluate {s : State} (h : Working s.core) : Working (reevaluate s).core := by
  obtain heq | ⟨p, source, heq⟩ := reevaluate_core s <;> rw [heq]
  · exact h
  · exact working_afterSelection p source h

theorem sameStanding_corePlanChange (p : Plan) (before : CoreState) (s : State) :
    SameStanding (setCore (afterPlanChange p s.sel s.core) s) (corePlanChange p before s) := by
  unfold corePlanChange
  dsimp only
  split
  · exact sameStanding_raiseTime _ _ _
  · exact .refl _

/-- A switch to a LOADED plan leaves that plan in force (R13, R24, R81, R85). -/
theorem works_switchTo {t : PlanNo} {p : Plan} {s : State} (h : Works plan s) (hrecord : s.plans.records.get t = some p) :
    Works plan (switchTo t p s) := by
  obtain ⟨hworking, hremembered, hruns⟩ := h
  have hselected : Working (reevaluate (setDirections p (activate t s))).core := by
    refine working_reevaluate ?_
    rw [setDirections_core]
    exact hworking
  refine ⟨?_, (movesOnly_switchTo t p s).remembered.trans hremembered, fun hp => ?_⟩
  · rw [switchTo_eq, corePlanChange_core]
    exact working_afterPlanChange p _ hselected
  · obtain ⟨old, hlinks, -, -⟩ := hruns hp
    obtain ⟨hserve, hfit⟩ := linksServe_reevaluate
      (linksServe_setDirections (p := p) (s := activate t s) hrecord hlinks.quals hlinks.joined)
    rw [switchTo_eq]
    generalize reevaluate (setDirections p (activate t s)) = w at hserve hfit hselected
    have hset : Runs (setCore (afterPlanChange p w.sel w.core) w) :=
      ⟨p, ⟨hserve.active, hserve.dirs, hserve.quals, hserve.joined⟩, hfit, coreServes_afterPlanChange p _ hselected.counting⟩
    exact hset.of_sameStanding (sameStanding_corePlanChange p _ _)

theorem works_failover {s : State} (h : Works plan s) : Works plan (failover s) := by
  obtain heq | ⟨t, p, hrecord, heq⟩ := failover_cases s <;> rw [heq]
  · exact h
  · exact (works_switchTo h hrecord).of_sameStanding (.of_core ⟨rfl, rfl, rfl, rfl, rfl, rfl, rfl, rfl⟩ rfl rfl rfl rfl)

theorem works_failoverController (st : CoreState) {s : State} (h : Works plan s) : Works plan (failoverController st s) := by
  have hcleared : Works plan (clearHeld s) := h.of_sameStanding (.of_core (.refl _) rfl rfl rfl rfl)
  obtain heq | ⟨t, p, -, hrecord, heq⟩ := failoverController_cases st s <;> rw [heq]
  · obtain heq | heq := considerFailover_cases st (clearHeld s) <;> rw [heq]
    · exact hcleared
    · exact works_failover hcleared
  · rw [orderedSwitch_eq]
    exact (works_switchTo (s := clearHeld s) hcleared hrecord).of_sameStanding (sameStanding_raisePlan _ _ _ _)

/-! ## The work at a sync -/

theorem works_expireHoldover (p : Plan) {s : State} (h : Works plan s) : Works plan (expireHoldover p s) := by
  obtain ⟨hworking, hremembered, hruns⟩ := h
  unfold expireHoldover
  split
  · rename_i hlimit
    have hstate : s.core.state = .holdover := by
      simp only [limitReached, Bool.and_eq_true, decide_eq_true_eq] at hlimit
      exact hlimit.1.1.1
    have hset : Works plan (setCore (enterGenerating p .free s.core) s) := by
      refine ⟨working_enterGenerating p rfl hworking.valid hworking.learned, (movesOnly_enterGenerating p .free s.core).remembered.trans hremembered,
        fun hp => ?_⟩
      obtain ⟨q, hlinks, hfit, htakeover, -⟩ := hruns hp
      refine ⟨q, ⟨hlinks.active, hlinks.dirs, hlinks.quals, hlinks.joined⟩, hfit, fun ht => ?_, by rw [setCore_core, enterGenerating_state]; decide⟩
      rw [setCore_core, enterGenerating_takeover] at ht
      obtain ⟨hst | ⟨hst, -⟩, -⟩ := htakeover ht <;> rw [hstate] at hst <;> cases hst
    exact hset.of_sameStanding ((sameStanding_raiseFault _ _).trans (sameStanding_raiseTime _ _ _))
  · exact ⟨hworking, hremembered, hruns⟩

theorem works_boundary (p : Plan) {s : State} (h : Works plan s) : Works plan (boundary p s) := by
  unfold boundary
  dsimp only
  split
  · exact works_expireHoldover p (h.of_sameStanding (sameStanding_setCore ⟨rfl, rfl, rfl, rfl, rfl, rfl, rfl, rfl⟩))
  · exact h.of_sameStanding (sameStanding_setCore ⟨rfl, rfl, rfl, rfl, rfl, rfl, rfl, rfl⟩)

/-- A sync keeps the invariants once its check, realign or join has left a counting core. -/
theorem stands_takeSync (p : Plan) (cause : SyncCause) {s : State} (h : Works plan (correct p cause (beginSync (composeIfDue s)))) :
    Stands plan (takeSync p cause s) := by
  unfold takeSync
  extract_lets s1 previous kind s2 reached s3 syncTime s4 latest s5 s6 s7
  have h3 : Works plan s3 := h
  have h4 : Works plan s4 := works_boundary p h3
  have h5 : Works plan s5 := h4.of_sameStanding ((sameStanding_fire syncTime latest p.sps s4).trans (sameStanding_recordFinal _))
  have h6 : Works plan s6 := h5.of_sameStanding ((sameStanding_emit _ s5).trans (sameStanding_reportJoin _ _ _ _ _))
  have h7 : Works plan s7 := works_failoverController s6.core.state h6
  have hrecord : s7.core.record.valid = true := by
    unfold s7
    rw [(movesOnly_failoverController s6.core.state s6).record]
    unfold s6
    rw [reportJoin_core, emit_core]
    rfl
  obtain ⟨hworking, hremembered, hruns⟩ := h7
  clear_value s7
  refine ⟨Working.coreInv ?_ hremembered hrecord rfl, fun hp => (hruns hp).of_sameStanding ?_⟩
  · exact hworking.of_coreStands ⟨rfl, rfl, rfl, rfl, rfl, rfl, rfl, rfl⟩
  · exact sameStanding_setCore ⟨rfl, rfl, rfl, rfl, rfl, rfl, rfl, rfl⟩

theorem works_begun {s : State} (h : Works plan s) : Works plan (beginSync (composeIfDue s)) :=
  h.of_sameStanding ((sameStanding_composeIfDue s).trans (sameStanding_beginSync _))

theorem stands_takeSync_generator (p : Plan) {s : State} (h : Works plan s) : Stands plan (takeSync p .generator s) :=
  stands_takeSync p .generator (works_begun h)

theorem stands_takeSync_mark (p : Plan) (l : LinkNo) (flagged : Bool) {s : State} (h : Works plan s) : Stands plan (takeSync p (.mark l flagged) s) := by
  refine stands_takeSync p (.mark l flagged) ?_
  unfold correct
  dsimp only
  split
  · exact (works_begun h).of_sameStanding (sameStanding_realign _ _)
  · split
    · exact (works_begun h).of_sameStanding (sameStanding_timeCheck p _ _)
    · exact works_begun h

@[simp] theorem composeIfDue_links (s : State) : (composeIfDue s).links = s.links := by
  unfold composeIfDue compose
  split
  · split <;> rfl
  · rfl

theorem expectedTime_congr {s t : State} (h : t.links = s.links) (l : LinkNo) : expectedTime l t = expectedTime l s := by
  simp [expectedTime, link_congr h]

/-- A join leaves a LOCKED core with valid time that is in no takeover (R11). -/
theorem stands_takeSync_join (p : Plan) {l : LinkNo} {s : State} (hrunning : s.core.gen.running = false) (hlearned : s.core.learned.length ≤ 8)
    (hremembered : s.core.remembered = none) (hannounce : (link l s).rx.annCur.isSome) (hsource : s.sel.source.isSome)
    (hplan : plan → ∃ p, LinksServe p s ∧ SourceFit s) : Stands plan (takeSync p (.join l) s) := by
  refine stands_takeSync p (.join l) ?_
  obtain ⟨a, ha⟩ := Option.isSome_iff_exists.mp hannounce
  have hexpected : expectedTime l (beginSync (composeIfDue s)) = some (a.time + offsetTime (link l s).offset) := by
    rw [expectedTime_congr (t := beginSync (composeIfDue s)) (composeIfDue_links s), expectedTime, ha, Option.map_some]
  have hbegun : SameStanding s (beginSync (composeIfDue s)) := (sameStanding_composeIfDue s).trans (sameStanding_beginSync _)
  unfold correct
  dsimp only
  rw [hexpected]
  dsimp only
  generalize beginSync (composeIfDue s) = b at hbegun
  have hcore := hbegun.core
  unfold CoreStands at hcore
  obtain ⟨-, -, hr, -, -, -, hl, hg⟩ := hcore
  have hjoined : (join l (a.time + offsetTime (link l s).offset) b).core.gen.running = false ∧
      (join l (a.time + offsetTime (link l s).offset) b).core.learned.length ≤ 8 ∧
      (join l (a.time + offsetTime (link l s).offset) b).core.remembered = none := by
    unfold join
    dsimp only
    split
    · exact ⟨hg.trans hrunning, by rw [← hl] at hlearned; exact hlearned, hr.trans hremembered⟩
    · exact ⟨hg.trans hrunning, by rw [← hl] at hlearned; exact hlearned, hr.trans hremembered⟩
  obtain ⟨hg', hl', hr'⟩ := hjoined
  refine ⟨⟨hg', rfl, rfl, gradeFollowsState_lockedGrade _ rfl, hl'⟩, hr', fun hp => ?_⟩
  obtain ⟨q, hlinks, hfit⟩ := hplan hp
  have hlinks := hlinks.of_sameStanding hbegun
  have hfit := hfit.of_sameStanding hbegun
  exact ⟨q, ⟨hlinks.active, hlinks.dirs, hlinks.quals, fun _ => by rw [← hbegun.sel] at hsource; exact hsource⟩, fun m hm => hfit m hm,
    coreServes_of_no_takeover rfl nofun⟩

/-! ## Counted steps -/

theorem countPlain_core (s : State) :
    (countPlain s).core = { countTime s.core with steps := satSucc Config.maxSteps s.core.steps } := by
  unfold countPlain
  rw [emit_core, countPulses_core, setCore_core, composeIfDue_core]

theorem stands_countPlain {s : State} (h : Stands plan s) : Stands plan (countPlain s) := by
  refine ⟨?_, fun hp => (h.2 hp).of_sameStanding (sameStanding_countPlain s)⟩
  rw [countPlain_core]
  exact h.1.congr rfl rfl rfl rfl rfl rfl rfl rfl rfl rfl rfl rfl

/-- A generating core whose next step's instant is moved on stands as before. -/
theorem stands_setGenerator {g : Generator} {s : State} (h : Stands plan s) (hg : g.running = s.core.gen.running) :
    Stands plan (setCore { s.core with gen := g } s) :=
  ⟨h.1.congr rfl rfl rfl rfl rfl rfl rfl hg rfl rfl rfl rfl,
    fun hp => (h.2 hp).of_sameStanding (sameStanding_setCore ⟨rfl, rfl, rfl, rfl, rfl, rfl, rfl, hg⟩)⟩

theorem CoreInv.counting_of_running {c : Core} (h : CoreInv c) (hrunning : c.gen.running = true) : counting c.state = true :=
  counting_of_generating (h.running_eq.symm.trans hrunning)

theorem stands_countGenerated (p : Plan) {s : State} (h : Stands plan s) (hrunning : s.core.gen.running = true) :
    Stands plan (countGenerated p s) := by
  have hset : Stands plan (setCore (advanceGenerator p s.core) s) := stands_setGenerator h rfl
  unfold countGenerated
  dsimp only
  split
  · exact stands_takeSync_generator p (hset.works (h.1.counting_of_running hrunning))
  · exact stands_countPlain hset

theorem stands_keepPassing {s : State} (h : Stands plan s) : Stands plan (keepPassing s) := h.of_sameStanding rfl (sameStanding_keepPassing s)

theorem stands_countWhile {due : Core → Bool} (hdue : ∀ c, due c = true → c.gen.running = true) (fuel : Nat) (between : Bool) {s : State}
    (h : Stands plan s) : Stands plan (countWhile due fuel between s) := by
  induction fuel generalizing between s with
  | zero => exact h
  | succ fuel ih =>
    unfold countWhile
    split
    · exact h
    · split
      · rename_i hd
        refine ih true ?_
        split
        · exact stands_countGenerated _ (stands_keepPassing h) (hdue _ hd)
        · exact stands_countGenerated _ h (hdue _ hd)
      · exact h

theorem running_of_stepDue (c : Core) (h : stepDue c = true) : c.gen.running = true := (Bool.and_eq_true_iff.mp h).1
theorem running_of_stepPassed (c : Core) (h : stepPassed c = true) : c.gen.running = true := (Bool.and_eq_true_iff.mp h).1

theorem stands_runGenerator (between : Bool) {s : State} (h : Stands plan s) : Stands plan (runGenerator between s) :=
  stands_countWhile running_of_stepDue _ between h

theorem stands_catchUp (between : Bool) (before : State) {s : State} (h : Stands plan s) : Stands plan (catchUp between before s) := by
  unfold catchUp
  split
  · exact stands_runGenerator between h
  · exact h

theorem stands_catchUpPassed (before : State) {s : State} (h : Stands plan s) : Stands plan (catchUpPassed before s) := by
  unfold catchUpPassed
  split
  · exact stands_countWhile running_of_stepPassed _ false h
  · exact h

/-! ## Marks -/

theorem stands_countMark (p : Plan) (l : LinkNo) (k : MarkKind) (measured : Option (Nat × Bool)) {s : State} (h : Stands plan s)
    (hlocked : s.core.state = .locked) : Stands plan (countMark p l k measured s) := by
  have hc : counting s.core.state = true := by rw [hlocked]; rfl
  have hlearn : ∀ c : Core, (c = s.core ∨ ∃ n, c = learn n s.core) →
      Stands plan (setCore { c with gen := { c.gen with elapsed := 0 } } s) ∧ Works plan (setCore { c with gen := { c.gen with elapsed := 0 } } s) := by
    intro c hcore
    have hset : Stands plan (setCore { c with gen := { c.gen with elapsed := 0 } } s) := by
      obtain rfl | ⟨n, rfl⟩ := hcore
      · exact stands_setGenerator h rfl
      · have hw := h.1.working hc
        refine ⟨Working.coreInv ⟨hw.running, hw.counting, hw.valid, hw.grade, length_learn_le n hw.learned⟩ (h.1.remembered_of_counting hc)
          (h.1.recordValid hw.valid) h.1.noSyncWork, fun hp => ?_⟩
        obtain ⟨q, hlinks, hfit, hcore⟩ := h.2 hp
        exact ⟨q, ⟨hlinks.active, hlinks.dirs, hlinks.quals, hlinks.joined⟩, hfit, hcore.congr rfl rfl rfl⟩
    refine ⟨hset, hset.works ?_⟩
    obtain rfl | ⟨n, rfl⟩ := hcore <;> exact hc
  have hmeasured : ∀ m : Option (Nat × Bool),
      (match m with | some (interval, true) => learn interval s.core | _ => s.core) = s.core
      ∨ ∃ n, (match m with | some (interval, true) => learn interval s.core | _ => s.core) = learn n s.core := by
    intro m
    split
    · exact .inr ⟨_, rfl⟩
    · exact .inl rfl
  unfold countMark
  dsimp only
  split
  · exact stands_countPlain (hlearn _ (hmeasured measured)).1
  · exact stands_takeSync_mark p l false (hlearn _ (hmeasured measured)).2
  · exact stands_takeSync_mark p l true (hlearn _ (hmeasured measured)).2

theorem makesJoin_iff {p : Plan} {l : LinkNo} {k : MarkKind} {s : State} : makesJoin p l k s = true ↔
    s.sel.source = some l ∧ s.sel.joined = false ∧ awaitsJoin p s.core = true ∧ k ≠ .plain ∧ (link l s).rx.annCur.isSome := by
  simp [makesJoin, and_assoc]

theorem awaitsJoin_not_halted {p : Plan} {c : Core} (h : awaitsJoin p c = true) : c.state ≠ .halted := by
  intro hst
  rw [awaitsJoin, hst] at h
  cases h

theorem stands_joinAt (p : Plan) {l : LinkNo} {k : MarkKind} {s : State} (h : Stands plan s) (hjoin : makesJoin p l k s = true) :
    Stands plan (joinAt p l s) := by
  obtain ⟨hsource, -, hawaits, -, hannounce⟩ := makesJoin_iff.mp hjoin
  obtain ⟨-, -, -, hremembered, -⟩ := h.1
  have hnone : s.core.remembered = none := by
    rw [← Option.not_isSome_iff_eq_none, hremembered]
    exact awaitsJoin_not_halted hawaits
  refine stands_takeSync_join p rfl h.1.learned_le hnone hannounce (by rw [setCore_sel, hsource]; rfl) fun hp => ?_
  obtain ⟨q, hlinks, hfit, -⟩ := h.2 hp
  exact ⟨q, ⟨hlinks.active, hlinks.dirs, hlinks.quals, hlinks.joined⟩, hfit⟩

theorem stands_followPosition (k : MarkKind) {s : State} (h : Stands plan s) : Stands plan (followPosition k s) := by
  refine ⟨?_, fun hp => (h.2 hp).of_sameStanding (sameStanding_followPosition k s)⟩
  unfold followPosition
  split
  · exact h.1.congr rfl rfl rfl rfl rfl rfl rfl rfl rfl rfl rfl rfl
  · exact h.1

theorem stands_coreMark (p : Plan) (l : LinkNo) (k : MarkKind) (measured : Option (Nat × Bool)) {s : State} (h : Stands plan s) :
    Stands plan (coreMark p l k measured s) := by
  unfold coreMark
  split
  · exact h
  · split
    · rename_i hlocked
      exact stands_countMark p l k measured h hlocked.1
    · split
      · rename_i hjoin
        exact stands_joinAt p h hjoin
      · exact stands_followPosition k h

theorem stands_receiveMark (p : Plan) (l : LinkNo) (k : MarkKind) (b : Option Byte) {s : State} (h : Stands plan s) :
    Stands plan (receiveMark p l k b s) := by
  unfold receiveMark
  extract_lets measured s1 q behind s2 s3
  have h1 : Stands plan s1 := by
    unfold s1
    split
    · exact stands_closeInterval l b h
    · exact h
  have h2 : Stands plan s2 := stands_catchUpPassed s1 (stands_qualifyMark p l k h1)
  have h3 : Stands plan s3 := by
    unfold s3
    split
    · refine stands_coreMark _ l k _ ?_
      split
      · exact stands_keepPassing h2
      · exact h2
    · exact h2
  exact stands_catchUp behind s1 (stands_finishMark l k b h3)

/-! ## The halt line -/

theorem assertHalt_of_running {s : State} (hidle : s.core.state ≠ .idle) (hhalted : s.core.state ≠ .halted) :
    assertHalt s = raiseTime s.core.state none (forcePulses (setCore (haltedCore s.core) s)) := by
  unfold assertHalt
  split
  · exact absurd ‹_› hidle
  · exact absurd ‹_› hhalted
  · rfl

theorem assertHalt_of_idle_or_halted {s : State} (h : s.core.state = .idle ∨ s.core.state = .halted) : assertHalt s = s := by
  unfold assertHalt
  obtain h | h := h <;> rw [h]

theorem releaseHalt_of_halted {p : Plan} {s : State} (hhalted : s.core.state = .halted) (hactive : activePlan s = some p) :
    releaseHalt s = raiseTime .halted none (setCore (releasedCore p s.sel (sourceQuality s) s.core) s) := by
  unfold releaseHalt
  rw [hhalted, hactive]

theorem releaseHalt_otherwise {s : State} (h : s.core.state ≠ .halted ∨ activePlan s = none) : releaseHalt s = s := by
  unfold releaseHalt
  split
  · rename_i hhalted hactive
    obtain h | h := h
    · exact absurd hhalted h
    · rw [hactive] at h
      cases h
  · rfl

theorem stands_assertHalt {s : State} (h : Stands plan s) : Stands plan (assertHalt s) := by
  by_cases hstill : s.core.state = .idle ∨ s.core.state = .halted
  · rwa [assertHalt_of_idle_or_halted hstill]
  · obtain ⟨hidle, hhalted⟩ := not_or.mp hstill
    rw [assertHalt_of_running hidle hhalted]
    refine ⟨coreInv_haltedCore h.1 hidle hhalted, fun hp => ?_⟩
    obtain ⟨q, hlinks, hfit, hcore⟩ := h.2 hp
    exact ⟨q, ⟨hlinks.active, hlinks.dirs, hlinks.quals, hlinks.joined⟩, hfit, coreServes_haltedCore hcore hhalted⟩

theorem stands_releaseHalt {s : State} (h : Stands plan s) : Stands plan (releaseHalt s) := by
  by_cases hhalted : s.core.state = .halted
  · cases hactive : activePlan s with
    | none => rwa [releaseHalt_otherwise (.inr hactive)]
    | some p =>
      rw [releaseHalt_of_halted hhalted hactive]
      refine ⟨coreInv_releasedCore p _ _ h.1 hhalted, fun hp => ?_⟩
      obtain ⟨q, hlinks, hfit, hcore⟩ := h.2 hp
      obtain rfl : p = q := Option.some.inj (hactive.symm.trans hlinks.active)
      exact ⟨p, ⟨hlinks.active, hlinks.dirs, hlinks.quals, hlinks.joined⟩, hfit, coreServes_releasedCore _ _ hcore h.1 hhalted⟩
  · rwa [releaseHalt_otherwise (.inl hhalted)]

theorem stands_haltPolicy (new : HaltPolicy) {s : State} (h : Stands plan s) : Stands plan (haltPolicy new s) := by
  have hset : Stands plan { s with halt := { s.halt with policy := new } } := h.of_sameStanding rfl (.of_core (.refl _) rfl rfl rfl rfl)
  obtain heq | heq | heq := haltPolicy_cases new s <;> rw [heq]
  · exact hset
  · exact stands_assertHalt hset
  · exact stands_releaseHalt hset

/-! ## Starting and stopping the time core -/

/-- TIME_START's plan and core, before the links take their directions (R151 a, b). -/
def startedState (i : PlanNo) (p : Plan) (start : Option Time) (s : State) : State :=
  raiseTime .idle none (setCore (startedCore p start s.core) (activate i s))

theorem startTime_eq (i : PlanNo) (p : Plan) (start : Option Time) (s : State) :
    startTime i p start s = if start.isSome then compose (raisePlan none .start 0 (reevaluate (setDirections p (startedState i p start s))))
      else raisePlan none .start 0 (reevaluate (setDirections p (startedState i p start s))) := rfl

/-- TIME_START leaves its plan in force (R5, R151). -/
theorem stands_startTime {i : PlanNo} {p : Plan} (start : Option Time) {s : State} (h : CoreInv s.core) (hidle : s.core.state = .idle)
    (hrecord : s.plans.records.get i = some p)
    (hplan : plan → (∀ l, (link l s).qual.state = .off ↔ (link l s).dir ≠ .receive) ∧ (s.sel.joined = true → s.sel.source.isSome)) :
    Stands plan (startTime i p start s) := by
  have hselected : Stands plan (reevaluate (setDirections p (startedState i p start s))) := by
    refine stands_reevaluate ?_ fun hp => ?_
    · rw [setDirections_core]
      exact coreInv_startedCore p start h hidle
    · obtain ⟨hquals, hjoined⟩ := hplan hp
      refine ⟨p, linksServe_setDirections (s := startedState i p start s) hrecord hquals hjoined, ?_⟩
      rw [setDirections_core]
      exact coreServes_startedCore p start s.core
  rw [startTime_eq]
  generalize reevaluate (setDirections p (startedState i p start s)) = w at hselected
  have hraised : Stands plan (raisePlan none .start 0 w) := hselected.of_sameStanding rfl (sameStanding_raisePlan _ _ _ w)
  split
  · exact hraised.of_sameStanding (compose_core _) (sameStanding_compose _)
  · exact hraised

/-- A flush raises its items over a schedule with every PENDING entry FLUSHED (R106, R107). -/
theorem foldl_raiseItem (es : List Entry) (o : Ending) (s : State) :
    es.foldl (fun s e => raiseItem e o s) s
      = { s with notices := es.foldl (fun u e => raised (.actions [itemOf e o]) u) s.notices } := by
  induction es generalizing s with
  | nil => rfl
  | cons e es ih => exact ih _

theorem flush_eq (s : State) : flush s = { s with
    sched := { s.sched with queue := s.sched.queue.map (fun e => if e.outcome.isNone then { e with outcome := some .flushed } else e) }
    notices := (s.sched.queue.filter (fun e => e.outcome.isNone)).foldl (fun u e => raised (.actions [itemOf e .flushed]) u) s.notices } := by
  unfold flush
  dsimp only
  rw [foldl_raiseItem]

/-- TIME_STOP's outputs and core, its plan and its message set, before the links turn OFF (R152 b to d). -/
def stoppedState (s : State) : State :=
  { raiseTime s.core.state none (setCore (stoppedCore s.core) (forcePulses s)) with plans := { s.plans with active := none }, outSet := none }

theorem stopTime_raises (s : State) : stopTime s = raisePlan (flush s).plans.active .stop (allOff (stoppedState (flush s))).core.syncIndex
    { allOff (stoppedState (flush s)) with sel := { source := none, joined := false } } := by
  simp only [stopTime, stoppedState, forcePulses_core, forcePulses_plans, raiseTime_plans, setCore_plans]

/-- What TIME_STOP leaves of each block (R152). -/
theorem stopTime_eq (s : State) : stopTime s = { s with
    core := stoppedCore s.core
    links := (allOff (stoppedState (flush s))).links
    outSet := none
    plans := { s.plans with active := none }
    sel := { source := none, joined := false }
    sched := { s.sched with queue := s.sched.queue.map (fun e => if e.outcome.isNone then { e with outcome := some .flushed } else e) }
    pulses := s.pulses.map idlePulse
    notices := raised (.plan none s.plans.active .stop s.core.syncIndex) (allOff (stoppedState (flush s))).notices } := by
  have h := (linksAndNotices_allOff (stoppedState (flush s))).eq
  rw [stopTime_raises]
  generalize allOff (stoppedState (flush s)) = w at h ⊢
  rw [h, flush_eq]
  rfl

/-- Each link after TIME_STOP. -/
theorem link_stopTime (l : LinkNo) (s : State) : link l (stopTime s) = stoppedLink (link l s) := by
  have h := link_allOff l (stoppedState (flush s))
  rw [link_congr (s := s) (t := stoppedState (flush s)) (by rw [flush_eq]; rfl)] at h
  exact (link_congr (by rw [stopTime_eq]) l).trans h

theorem stopTime_core (s : State) : (stopTime s).core = stoppedCore s.core := by
  rw [stopTime_eq]

end Sys2Proof.Machine
end

section
/-! SUPPORT. The invariants of the core and of the plan at every event and tick, and at reset. -/

namespace Sys2Proof.Machine

/-! ## The core -/

theorem stands_false_iff {s : State} : Stands False s ↔ CoreInv s.core := ⟨And.left, fun h => ⟨h, False.elim⟩⟩

theorem coreInv_congr {s t : State} (h : CoreInv s.core) (heq : t.core = s.core) : CoreInv t.core := heq ▸ h

theorem coreInv_transmit {s : State} (h : CoreInv s.core) : CoreInv (transmit s).core := coreInv_congr h (transmit_core s)

@[simp] theorem endCatchUp_core (b s : State) : (endCatchUp b s).core = s.core := congrArg Blocks.core (endCatchUp_toBlocks b s)
@[simp] theorem endEdge_core (b s : State) : (endEdge b s).core = s.core := congrArg Blocks.core (endEdge_toBlocks b s)

@[simp] theorem takeBytes_core (bs : List Byte) (s : State) : (takeBytes bs s).core = s.core := by
  obtain ⟨c, n, h⟩ := takeBytes_eq bs s
  rw [h]

/-- An accepted edge writes the capture unit, the notice unit and the note of the edge. -/
theorem acceptEdge_eq (line : EventLine) (edge : Edge) (c : Core) (s : State) :
    ∃ x n, acceptEdge line edge c s = { s with capture := x, notices := n, edgeAt := some (c.time, c.ticks) } := by
  unfold acceptEdge
  dsimp only
  split
  · split <;> exact ⟨_, _, rfl⟩
  · exact ⟨_, _, rfl⟩

theorem coreInv_request {s t : State} (h : CoreInv s.core) (hr : RequestEffect s t) : CoreInv t.core := by
  cases hr with
  | timeStart i p v hidle hrecord => exact (stands_startTime (plan := False) v h hidle hrecord False.elim).1
  | timeStop =>
    rw [stopTime_core]
    exact coreInv_stoppedCore h
  | haltSet new => exact (stands_haltPolicy (plan := False) new (stands_false_iff.mpr h)).1
  | _ => exact h

theorem coreInv_event {s t : State} (h : CoreInv s.core) (he : Event s t) : CoreInv t.core := by
  have hs : Stands False s := stands_false_iff.mpr h
  cases he with
  | none => exact h
  | powerOn rate haltn ev => exact coreInv_reset
  | channelByte b => exact coreInv_transmit (coreInv_congr h (takeBytes_core _ _))
  | frameTimer => exact coreInv_transmit (coreInv_congr h (takeBytes_core _ _))
  | request r a t _ hr =>
    have ht : CoreInv t.core := coreInv_request (s := dequeue s) h hr
    exact coreInv_transmit (s := placeResponse r a t) ht
  | restart => exact coreInv_reset
  | frameSent x hx => exact coreInv_transmit h
  | ackTimer => exact coreInv_transmit h
  | linkMark p l k b =>
    rw [endCatchUp_core]
    exact coreInv_transmit (stands_receiveMark p l k b hs).1
  | pulseWidthEnd o => exact h
  | holdoverExpired p hlimit =>
    have hnone : limitReached p s.core = false := by simp [limitReached, h.noSyncWork]
    rw [hnone] at hlimit
    cases hlimit
  | generatorStep =>
    rw [endCatchUp_core]
    exact coreInv_transmit (stands_runGenerator false hs).1
  | lossTimer l =>
    rw [endCatchUp_core]
    exact coreInv_transmit (stands_catchUp false s (stands_expireLoss l hs)).1
  | holdoffTimer l hfailed =>
    rw [endCatchUp_core]
    exact coreInv_transmit (stands_catchUp false s (stands_changeQual _ hs (show QualState.seek ≠ .off by decide) (by rw [hfailed]; decide))).1
  | haltnJudged level => exact h
  | haltnAssert =>
    exact coreInv_transmit (stands_assertHalt (s := { s with halt := { s.halt with level := .low } }) (plan := False) (stands_false_iff.mpr h)).1
  | haltnRelease =>
    exact coreInv_transmit (stands_releaseHalt (s := { s with halt := { s.halt with level := .high } }) (plan := False) (stands_false_iff.mpr h)).1
  | edgeJudged levels =>
    rw [endEdge_core]
    exact h
  | edgeAccepted levels line edge c =>
    rw [endEdge_core]
    obtain ⟨x, n, heq⟩ := acceptEdge_eq line edge c { s with capture := { s.capture with levels := levels } }
    rw [heq]
    exact coreInv_transmit h
  | markLeaves l => exact h

theorem coreInv_tick {s : State} (h : CoreInv s.core) : CoreInv (tick s).core :=
  coreInv_transmit (s := advance s) (h.congr rfl rfl rfl rfl rfl rfl rfl rfl rfl rfl rfl rfl)

/-- Settles O56: `Stands` without the plan, through every event. -/
theorem stepKeepsTheCoreInvariant : Obligations.StepKeepsTheCoreInvariant := fun _ _ h ht =>
  step_keeps (P := fun s => CoreInv s.core) (fun _ _ h => h) (fun _ => coreInv_tick) (fun _ _ => coreInv_event) h ht

/-! ## The plan -/

/-- No entry of the queue is PENDING. -/
def AllFinished (c : Schedule) : Prop := ∀ e ∈ c.queue, e.outcome.isSome

/-- What leaves the standing of the part, the message set, and a queue without PENDING entries keeps the plan's invariant. -/
theorem planInv_of_sameStanding {s t : State} (h : PlanInv s) (k : SameStanding s t) (hset : t.outSet = s.outSet)
    (hqueue : AllFinished s.sched → AllFinished t.sched) : PlanInv t := by
  by_cases hidle : s.core.state = .idle
  · obtain ⟨hactive, hloaded, hdirs, hquals, hsource, hjoined, htakeover, hrest⟩ := h
    obtain ⟨hvalid, hout, hall⟩ := hrest hidle
    have hcore := k.core
    unfold CoreStands at hcore
    obtain ⟨hstate, htake, hremembered, hv, -⟩ := hcore
    have hnone : t.plans.active = none := k.active.trans (hactive.mp hidle)
    refine ⟨⟨fun _ => hnone, fun _ => hstate.trans hidle⟩, fun i hi => ?_, fun l => ?_, fun l => ?_, ?_, ?_, ?_, fun _ => ?_⟩
    · rw [hnone] at hi
      cases hi
    · rw [k.dir, k.plan]
      exact hdirs l
    · rw [k.qual, k.dir]
      exact hquals l
    · exact SourceFit.of_sameStanding hsource k
    · rw [k.sel]
      exact hjoined
    · unfold TakeoverIsBackup at htakeover ⊢
      rwa [htake, hstate, hremembered, k.plan]
    · exact ⟨hv.trans hvalid, hset.trans hout, hqueue hall⟩
  · exact planInv_of_runs ((runs_of_planInv h hidle).of_sameStanding k)

/-- In IDLE no link is RECEIVE and every qualifier is OFF. -/
theorem qual_off_of_idle {s : State} (h : PlanInv s) (hidle : s.core.state = .idle) (l : LinkNo) :
    (link l s).dir = .off ∧ (link l s).qual.state = .off := by
  obtain ⟨hactive, -, hdirs, hquals, -⟩ := h
  have hnone : activePlan s = none := by rw [activePlan, hactive.mp hidle]; rfl
  have hdir : (link l s).dir = .off := by
    rw [hdirs l, hnone]
  exact ⟨hdir, (hquals l).mpr (by rw [hdir]; decide)⟩

theorem unselected_eq {c : Selection} (hsource : c.source = none) (hjoined : c.joined = false) : c = { source := none, joined := false } := by
  cases c
  cases hsource
  cases hjoined
  rfl

/-- In IDLE nothing is selected. -/
theorem unselected_of_idle {s : State} (h : PlanInv s) (hidle : s.core.state = .idle) : s.sel = { source := none, joined := false } := by
  have hoff := qual_off_of_idle h hidle
  obtain ⟨-, -, -, -, hsource, hjoined, -⟩ := h
  have hnone : s.sel.source = none := by
    by_contra hsome
    obtain ⟨l, hl⟩ := Option.ne_none_iff_exists'.mp hsome
    have hl := hsource l hl
    rw [(hoff l).2] at hl
    obtain hl | hl := hl <;> cases hl
  have hfalse : s.sel.joined = false := by
    by_contra ht
    have := hjoined (Bool.not_eq_false _ ▸ ht)
    rw [hnone] at this
    cases this
  exact unselected_eq hnone hfalse

theorem allFinished_transmit {s : State} (h : AllFinished s.sched) : AllFinished (transmit s).sched := by
  unfold transmit
  split
  · exact h
  · split
    · exact h
    · split
      · rename_i o _
        cases o with
        | again n => exact h
        | fresh n =>
          change AllFinished (recordReport _ n s.sched)
          unfold recordReport
          split
          · intro e he
            obtain ⟨x, hx, rfl⟩ := List.mem_map.mp he
            split <;> exact h x hx
          · exact h
      · exact h

theorem allFinished_releaseItem {q : SeqNo} {c : Schedule} (i : ActionItem) (h : AllFinished c) : AllFinished (releaseItem q c i) := by
  unfold releaseItem
  split
  · exact h
  · exact fun e he => h e (List.mem_of_mem_filter he)

theorem allFinished_release {c : Schedule} (gone : List SentNotice) (h : AllFinished c) : AllFinished (gone.foldl releaseNotice c) := by
  refine List.foldlRecOn gone releaseNotice h fun d hd n _ => ?_
  unfold releaseNotice
  split
  · rename_i items _
    exact List.foldlRecOn items (releaseItem n.seq) hd fun d hd i _ => allFinished_releaseItem i hd
  · exact hd

theorem planInv_transmit {s : State} (h : PlanInv s) : PlanInv (transmit s) :=
  planInv_of_sameStanding h (sameStanding_transmit s) (transmit_outSet s) allFinished_transmit

/-- A write of blocks that the invariant does not speak of. -/
theorem planInv_of_eq {s t : State} (h : PlanInv s) (hcore : t.core = s.core) (hactive : t.plans.active = s.plans.active)
    (hrecords : t.plans.records = s.plans.records) (hsel : t.sel = s.sel) (hlinks : t.links = s.links) (hset : t.outSet = s.outSet)
    (hsched : t.sched = s.sched) : PlanInv t :=
  planInv_of_sameStanding h (.of_core (by rw [hcore]; exact .refl _) hactive hrecords hsel hlinks) hset fun hall => hsched ▸ hall

theorem planInv_endCatchUp {s : State} (b : State) (h : PlanInv s) : PlanInv (endCatchUp b s) :=
  have heq := endCatchUp_toBlocks b s
  planInv_of_eq h (congrArg Blocks.core heq) (congrArg (fun b : Blocks => b.plans.active) heq) (congrArg (fun b : Blocks => b.plans.records) heq)
    (congrArg Blocks.sel heq) (congrArg Blocks.links heq) (congrArg Blocks.outSet heq) (congrArg Blocks.sched heq)

theorem planInv_endEdge {s : State} (b : State) (h : PlanInv s) : PlanInv (endEdge b s) :=
  have heq := endEdge_toBlocks b s
  planInv_of_eq h (congrArg Blocks.core heq) (congrArg (fun b : Blocks => b.plans.active) heq) (congrArg (fun b : Blocks => b.plans.records) heq)
    (congrArg Blocks.sel heq) (congrArg Blocks.links heq) (congrArg Blocks.outSet heq) (congrArg Blocks.sched heq)

theorem planInv_takeBytes {s : State} (bs : List Byte) (h : PlanInv s) : PlanInv (takeBytes bs s) := by
  obtain ⟨c, n, heq⟩ := takeBytes_eq bs s
  rw [heq]
  exact planInv_of_eq h rfl rfl rfl rfl rfl rfl rfl

/-- After TIME_STOP the part is idle, with no active plan, every link OFF and nothing selected (R152). -/
theorem planInv_stopTime {s : State} (h : PlanInv s) : PlanInv (stopTime s) := by
  obtain ⟨-, -, -, hquals, -⟩ := h
  have hstopped : ∀ u : LinkUnit, (u.qual.state = .off ↔ u.dir ≠ .receive) → (stoppedLink u).dir = .off ∧ (stoppedLink u).qual.state = .off := by
    intro u hu
    unfold stoppedLink
    split
    · rename_i hoff
      exact ⟨hoff, hu.mpr (by rw [hoff]; decide)⟩
    · exact ⟨rfl, rfl⟩
  have hlink : ∀ l, (link l (stopTime s)).dir = .off ∧ (link l (stopTime s)).qual.state = .off := fun l => by
    rw [link_stopTime]
    exact hstopped _ (hquals l)
  have hactive : (stopTime s).plans.active = none := by rw [stopTime_eq]
  have hsel : (stopTime s).sel = { source := none, joined := false } := by rw [stopTime_eq]
  have hout : (stopTime s).outSet = none := by rw [stopTime_eq]
  have hsched : (stopTime s).sched.queue = s.sched.queue.map (fun e => if e.outcome.isNone then { e with outcome := some .flushed } else e) := by
    rw [stopTime_eq]
  refine ⟨⟨fun _ => hactive, fun _ => by rw [stopTime_core]; rfl⟩, fun i hi => ?_, fun l => ?_, fun l => ?_, fun l hl => ?_, fun hj => ?_, fun ht => ?_,
    fun _ => ⟨by rw [stopTime_core]; rfl, hout, fun e he => ?_⟩⟩
  · rw [hactive] at hi
    cases hi
  · rw [activePlan, hactive]
    exact (hlink l).1
  · rw [(hlink l).1, (hlink l).2]
    decide
  · rw [hsel] at hl
    cases hl
  · rw [hsel] at hj
    cases hj
  · rw [stopTime_core] at ht
    cases ht
  · rw [hsched] at he
    obtain ⟨x, -, rfl⟩ := List.mem_map.mp he
    split
    · rfl
    · rename_i hx
      exact Option.isSome_iff_ne_none.mpr fun hn => hx (by rw [hn]; rfl)

/-- A part with no active plan, in IDLE, with every link at its reset state. -/
theorem planInv_of_reset {s : State} (hcore : s.core = Core.reset) (hactive : s.plans.active = none) (hsel : s.sel = { source := none, joined := false })
    (hset : s.outSet = none) (hqueue : s.sched.queue = []) (hlinks : ∀ l, (link l s).dir = .off ∧ (link l s).qual.state = .off) : PlanInv s := by
  refine ⟨⟨fun _ => hactive, fun _ => by rw [hcore]; rfl⟩, fun i hi => ?_, fun l => ?_, fun l => ?_, fun l hl => ?_, fun hj => ?_, fun ht => ?_,
    fun _ => ⟨by rw [hcore]; rfl, hset, fun e he => ?_⟩⟩
  · rw [hactive] at hi
    cases hi
  · rw [activePlan, hactive]
    exact (hlinks l).1
  · rw [(hlinks l).1, (hlinks l).2]
    decide
  · rw [hsel] at hl
    cases hl
  · rw [hsel] at hj
    cases hj
  · rw [hcore] at ht
    cases ht
  · rw [hqueue] at he
    cases he

theorem planInv_powerOn (rate : LineRate) (haltn : Level) (ev : Per4 Level) : PlanInv (State.powerOn rate haltn ev) :=
  planInv_of_reset rfl rfl rfl rfl rfl fun l => by
    rw [link_powerOn]
    exact ⟨rfl, rfl⟩

theorem planInv_restarted (s : State) : PlanInv (restarted s) :=
  planInv_of_reset rfl rfl rfl rfl rfl fun l => by
    have hlink : link l (restarted s) = restartedLink (link l s) := Per6.get_map _ _ l
    rw [hlink]
    exact ⟨rfl, rfl⟩

/-- A plan record that is not the active plan's is written with the plan in force as it was. -/
theorem sameStanding_setRecord {i : PlanNo} (r : Option Plan) (fallback : List PlanNo) {s : State} (h : s.plans.active ≠ some i) :
    SameStanding s { s with plans := { s.plans with records := s.plans.records.set i r, fallback := fallback } } := by
  refine ⟨.refl _, rfl, ?_, rfl, fun _ => rfl, fun _ => rfl⟩
  unfold activePlan
  dsimp only
  cases hactive : s.plans.active with
  | none => rfl
  | some j =>
    have hj : j ≠ i := fun heq => h (by rw [hactive, heq])
    exact Per4.get_set_ne _ _ hj

/-- A change at the halt line keeps the plan's invariant: nothing in IDLE, and `Stands` outside it. -/
theorem planInv_assertHalt {s : State} (h : PlanInv s) (hc : CoreInv s.core) : PlanInv (assertHalt s) := by
  by_cases hidle : s.core.state = .idle
  · rwa [assertHalt_of_idle_or_halted (.inl hidle)]
  · exact planInv_of_runs ((stands_assertHalt (plan := True) ⟨hc, fun _ => runs_of_planInv h hidle⟩).2 trivial)

theorem planInv_releaseHalt {s : State} (h : PlanInv s) (hc : CoreInv s.core) : PlanInv (releaseHalt s) := by
  by_cases hidle : s.core.state = .idle
  · rwa [releaseHalt_otherwise (.inl (by rw [hidle]; decide))]
  · exact planInv_of_runs ((stands_releaseHalt (plan := True) ⟨hc, fun _ => runs_of_planInv h hidle⟩).2 trivial)

theorem planInv_haltPolicy (new : HaltPolicy) {s : State} (h : PlanInv s) (hc : CoreInv s.core) : PlanInv (haltPolicy new s) := by
  have hset : PlanInv { s with halt := { s.halt with policy := new } } := planInv_of_eq h rfl rfl rfl rfl rfl rfl rfl
  obtain heq | heq | heq := haltPolicy_cases new s <;> rw [heq]
  · exact hset
  · exact planInv_assertHalt hset hc
  · exact planInv_releaseHalt hset hc

theorem planInv_request {s t : State} (h : PlanInv s) (hc : CoreInv s.core) (hr : RequestEffect s t) : PlanInv t := by
  cases hr with
  | none => exact h
  | holdRestart r => exact planInv_of_eq h rfl rfl rfl rfl rfl rfl rfl
  | planWrite i p hactive => exact planInv_of_sameStanding h (sameStanding_setRecord (some p) s.plans.fallback hactive) rfl id
  | planClear i hactive => exact planInv_of_sameStanding h (sameStanding_setRecord none _ hactive) rfl id
  | fallbackSet l => exact planInv_of_eq h rfl rfl rfl rfl rfl rfl rfl
  | linkSet l offset holdoff => exact planInv_of_sameStanding h (sameStanding_setLink rfl rfl) rfl id
  | timeStart i p v hidle hrecord =>
    obtain ⟨-, -, -, hquals, -, hjoined, -⟩ := h
    exact planInv_of_runs ((stands_startTime (plan := True) v hc hidle hrecord fun _ => ⟨hquals, hjoined⟩).2 trivial)
  | timeStop => exact planInv_stopTime h
  | actionAdd a due o sends hvalid =>
    obtain ⟨-, -, -, -, -, -, -, hrest⟩ := id h
    have hidle : s.core.state ≠ .idle := fun hi => by
      rw [(hrest hi).1] at hvalid
      cases hvalid
    exact planInv_of_runs ((runs_of_planInv h hidle).of_sameStanding (sameStanding_setSched _ s))
  | actionCancel e =>
    refine planInv_of_sameStanding h (.trans (sameStanding_setSched _ s) (sameStanding_raiseItem _ _ _)) rfl fun hall x hx => ?_
    obtain ⟨y, hy, rfl⟩ := List.mem_map.mp hx
    split
    · rfl
    · exact hall y hy
  | lineSet e q => exact planInv_of_eq h rfl rfl rfl rfl rfl rfl rfl
  | captureRead => exact planInv_of_eq h rfl rfl rfl rfl rfl rfl rfl
  | haltSet new => exact planInv_haltPolicy new h hc
  | noticeAck q gone left => exact planInv_of_sameStanding h (.of_core (.refl _) rfl rfl rfl rfl) rfl (allFinished_release gone)
  | noticeSet timeout m => exact planInv_of_eq h rfl rfl rfl rfl rfl rfl rfl

theorem planInv_event {s t : State} (h : PlanInv s) (hc : CoreInv s.core) (he : Event s t) : PlanInv t := by
  have hruns : s.core.state ≠ .idle → Stands True s := fun hidle => ⟨hc, fun _ => runs_of_planInv h hidle⟩
  cases he with
  | none => exact h
  | powerOn rate haltn ev => exact planInv_of_eq (planInv_powerOn rate haltn ev) rfl rfl rfl rfl rfl rfl rfl
  | channelByte b => exact planInv_transmit (planInv_takeBytes _ h)
  | frameTimer => exact planInv_transmit (planInv_takeBytes _ (planInv_of_eq h rfl rfl rfl rfl rfl rfl rfl))
  | request r a t _ hr =>
    have hd : PlanInv (dequeue s) := planInv_of_eq h rfl rfl rfl rfl rfl rfl rfl
    exact planInv_transmit (planInv_of_eq (planInv_request hd hc hr) rfl rfl rfl rfl rfl rfl rfl)
  | restart => exact planInv_restarted s
  | frameSent x hx => exact planInv_transmit (planInv_of_eq h rfl rfl rfl rfl rfl rfl rfl)
  | ackTimer => exact planInv_transmit (planInv_of_eq h rfl rfl rfl rfl rfl rfl rfl)
  | linkMark p l k b hplan hdir =>
    have hidle : s.core.state ≠ .idle := fun hi => by
      rw [(qual_off_of_idle h hi l).1] at hdir
      cases hdir
    exact planInv_endCatchUp s (planInv_transmit (planInv_of_runs ((stands_receiveMark p l k b (hruns hidle)).2 trivial)))
  | pulseWidthEnd o => exact planInv_of_eq h rfl rfl rfl rfl rfl rfl rfl
  | holdoverExpired p hlimit =>
    have hnone : limitReached p s.core = false := by simp [limitReached, hc.noSyncWork]
    rw [hnone] at hlimit
    cases hlimit
  | generatorStep hdue =>
    have hidle : s.core.state ≠ .idle := fun hi => by
      have := hc.counting_of_running (running_of_stepDue _ hdue)
      rw [hi] at this
      cases this
    exact planInv_endCatchUp s (planInv_transmit (planInv_of_runs ((stands_runGenerator false (hruns hidle)).2 trivial)))
  | lossTimer l =>
    refine planInv_endCatchUp s (planInv_transmit ?_)
    by_cases hidle : s.core.state = .idle
    · have hnothing : catchUp false s (expireLoss l s) = s := by
        have hoff : expireLoss l s = s := by simp [expireLoss, (qual_off_of_idle h hidle l).2]
        simp [hoff, catchUp, generatorStarted]
      rwa [hnothing]
    · exact planInv_of_runs ((stands_catchUp false s (stands_expireLoss l (hruns hidle))).2 trivial)
  | holdoffTimer l hfailed =>
    have hidle : s.core.state ≠ .idle := fun hi => by
      rw [(qual_off_of_idle h hi l).2] at hfailed
      cases hfailed
    exact planInv_endCatchUp s (planInv_transmit (planInv_of_runs
      ((stands_catchUp false s (stands_changeQual _ (hruns hidle) (show QualState.seek ≠ .off by decide) (by rw [hfailed]; decide))).2 trivial)))
  | haltnJudged level => exact planInv_of_eq h rfl rfl rfl rfl rfl rfl rfl
  | haltnAssert => exact planInv_transmit (planInv_assertHalt (planInv_of_eq h rfl rfl rfl rfl rfl rfl rfl) hc)
  | haltnRelease => exact planInv_transmit (planInv_releaseHalt (planInv_of_eq h rfl rfl rfl rfl rfl rfl rfl) hc)
  | edgeJudged levels => exact planInv_endEdge s (planInv_of_eq h rfl rfl rfl rfl rfl rfl rfl)
  | edgeAccepted levels line edge c =>
    obtain ⟨x, n, heq⟩ := acceptEdge_eq line edge c { s with capture := { s.capture with levels := levels } }
    rw [heq]
    exact planInv_endEdge s (planInv_transmit (planInv_of_eq h rfl rfl rfl rfl rfl rfl rfl))
  | markLeaves l => exact planInv_of_sameStanding h (sameStanding_setLink rfl rfl) rfl id

theorem link_advance (l : LinkNo) (s : State) : link l (advance s) = tickLink (link l s) := Per6.get_map _ _ l

theorem sameStanding_advance (s : State) : SameStanding s (advance s) :=
  ⟨⟨rfl, rfl, rfl, rfl, rfl, rfl, rfl, rfl⟩, rfl, rfl, rfl, fun l => by rw [link_advance]; rfl, fun l => by rw [link_advance]; rfl⟩

theorem planInv_tick {s : State} (h : PlanInv s) : PlanInv (tick s) :=
  planInv_of_eq (planInv_transmit (planInv_of_sameStanding h (sameStanding_advance s) rfl id)) rfl rfl rfl rfl rfl rfl rfl

/-- Settles O57: outside IDLE by `Stands` with the plan, in IDLE by the events that can then occur. -/
theorem stepKeepsThePlanInvariant : Obligations.StepKeepsThePlanInvariant := fun _ _ h hc ht =>
  (step_keeps (P := fun s => PlanInv s ∧ CoreInv s.core) (fun _ _ h => ⟨planInv_of_eq h.1 rfl rfl rfl rfl rfl rfl rfl, h.2⟩)
    (fun _ h => ⟨planInv_tick h.1, coreInv_tick h.2⟩) (fun _ _ h he => ⟨planInv_event h.1 h.2 he, coreInv_event h.2 he⟩) ⟨h, hc⟩ ht).1

/-! ## Reset -/

/-- Settles O53: the reset lemma of each block. -/
theorem resetHoldsTheInvariants : Obligations.ResetHoldsTheInvariants := by
  refine ⟨channelInv_reset _, noticeInv_reset, coreInv_reset, planInv_powerOn _ _ _, scheduleInv_reset, ?_, fun l => ?_⟩
  · exact ⟨Nat.zero_le _, Nat.zero_le _, fun o _ => congrArg Pulse.width (Per4.get_all _ o)⟩
  · rw [State.reset, link_powerOn]
    exact linkInv_reset

end Sys2Proof.Machine
end

section
/-! SUPPORT. The queue of commands, the two resets, the transmitter with the notice unit's timer, and the raising of a notice. -/

namespace Sys2Proof.Machine

/-! ## The queue of commands -/

/-- Settles O1: the definition of a step on a queue that is not empty. -/
theorem stepTakesTheFrontCommand : Obligations.StepTakesTheFrontCommand := by
  intro c rest s h
  unfold step
  rw [h]

/-- The queue of commands and the count of free choices stand. -/
def SameQueue (s t : State) : Prop := t.pending = s.pending ∧ t.choices = s.choices

theorem SameEnvironment.sameQueue {s t : State} (h : SameEnvironment s t) : SameQueue s t := by
  obtain ⟨hpending, hchoices, -⟩ := h
  exact ⟨hpending, hchoices⟩

theorem SameQueue.transmit {s t : State} (h : SameQueue s t) : SameQueue s (transmit t) := by
  obtain ⟨hpending, hchoices⟩ := h
  exact ⟨(transmit_pending t).trans hpending, (transmit_choices t).trans hchoices⟩

theorem SameQueue.endCatchUp {s t : State} (b : State) (h : SameQueue s t) : SameQueue s (endCatchUp b t) := by
  obtain ⟨hpending, hchoices⟩ := h
  exact ⟨(endCatchUp_pending b t).trans hpending, (endCatchUp_choices b t).trans hchoices⟩

theorem SameQueue.endEdge {s t : State} (b : State) (h : SameQueue s t) : SameQueue s (endEdge b t) := by
  obtain ⟨hpending, hchoices⟩ := h
  exact ⟨(endEdge_pending b t).trans hpending, (endEdge_choices b t).trans hchoices⟩

theorem sameQueue_takeBytes (bs : List Byte) (s : State) : SameQueue s (takeBytes bs s) := by
  obtain ⟨c, n, heq⟩ := takeBytes_eq bs s
  rw [heq]
  exact ⟨rfl, rfl⟩

theorem sameQueue_haltPolicy (new : HaltPolicy) (s : State) : SameQueue s (haltPolicy new s) := by
  obtain heq | heq | heq := haltPolicy_cases new s <;> rw [heq]
  · exact ⟨rfl, rfl⟩
  · exact (sameEnvironment_assertHalt { s with halt := { s.halt with policy := new } }).sameQueue
  · exact (sameEnvironment_releaseHalt { s with halt := { s.halt with policy := new } }).sameQueue

theorem sameQueue_request {s t : State} (h : RequestEffect s t) : SameQueue s t := by
  cases h with
  | timeStart i p v => exact (sameEnvironment_startTime i p v s).sameQueue
  | timeStop => exact (sameEnvironment_stopTime s).sameQueue
  | haltSet new => exact sameQueue_haltPolicy new s
  | _ => exact ⟨rfl, rfl⟩

/-- No event of the part writes the queue of commands or draws a free choice. -/
theorem sameQueue_event {s t : State} (h : Event s t) : SameQueue s t := by
  cases h with
  | none => exact ⟨rfl, rfl⟩
  | powerOn => exact ⟨rfl, rfl⟩
  | channelByte => exact (sameQueue_takeBytes _ s).transmit
  | frameTimer => exact SameQueue.transmit (sameQueue_takeBytes _ (raiseFault .channelFraming s))
  | request r a t _ hb =>
    have heffect : SameQueue s t := sameQueue_request (s := dequeue s) hb
    exact SameQueue.transmit (t := placeResponse r a t) heffect
  | restart => exact ⟨rfl, rfl⟩
  | frameSent => exact SameQueue.transmit ⟨rfl, rfl⟩
  | ackTimer => exact SameQueue.transmit ⟨rfl, rfl⟩
  | linkMark p l k b => exact (sameEnvironment_receiveMark p l k b s).sameQueue.transmit.endCatchUp s
  | pulseWidthEnd => exact ⟨rfl, rfl⟩
  | holdoverExpired p => exact (sameEnvironment_expireHoldover p s).sameQueue.transmit
  | generatorStep => exact (sameEnvironment_runGenerator false s).sameQueue.transmit.endCatchUp s
  | lossTimer l => exact ((sameEnvironment_expireLoss l s).trans (sameEnvironment_catchUp false s _)).sameQueue.transmit.endCatchUp s
  | holdoffTimer l => exact ((sameEnvironment_changeQual l _ _ s).trans (sameEnvironment_catchUp false s _)).sameQueue.transmit.endCatchUp s
  | haltnJudged => exact ⟨rfl, rfl⟩
  | haltnAssert => exact SameQueue.transmit (sameEnvironment_assertHalt { s with halt := { s.halt with level := .low } }).sameQueue
  | haltnRelease => exact SameQueue.transmit (sameEnvironment_releaseHalt { s with halt := { s.halt with level := .high } }).sameQueue
  | edgeJudged => exact SameQueue.endEdge s ⟨rfl, rfl⟩
  | edgeAccepted levels line edge c =>
    obtain ⟨x, n, heq⟩ := acceptEdge_eq line edge c { s with capture := { s.capture with levels := levels } }
    rw [heq]
    exact SameQueue.endEdge s (SameQueue.transmit ⟨rfl, rfl⟩)
  | markLeaves => exact ⟨rfl, rfl⟩

/-- An outcome is a next state: the part refuses nothing and stops at nothing. -/
def Completes (o : Host.Outcome State Fault Refusal) : Prop := ∃ t, o = .next t

theorem completes_next (t : State) : Completes (.next t) := ⟨t, rfl⟩

theorem completes_guarded (c : Prop) [Decidable c] {a b : Host.Outcome State Fault Refusal} (ha : Completes a) (hb : Completes b) :
    Completes (if c then a else b) := by
  split
  · exact ha
  · exact hb

theorem completes_transmitDone (s : State) : Completes (execTransmitDone s) := by
  unfold execTransmitDone
  split
  · exact completes_next s
  · exact completes_guarded _ (completes_next s) (completes_guarded _ (completes_next _) (completes_next _))

theorem completes_linkMark (l : LinkNo) (k : MarkKind) (b : Option Byte) (s : State) : Completes (execLinkMark l k b s) := by
  unfold execLinkMark
  split
  · exact completes_guarded _ (completes_next _) (completes_next s)
  · exact completes_next s

theorem completes_holdoverExpired (s : State) : Completes (execHoldoverExpired s) := by
  unfold execHoldoverExpired
  split <;> exact completes_next _

theorem exec_completes (c : Instr) (s : State) : Completes (exec c s) := by
  cases c with
  | frameTimerExpiry | ackTimerExpiry | generatorStep | lossTimerExpiry | holdoffTimerExpiry | haltnAssert | haltnRelease | eventEdge
  | caughtUpMarkLeaves => exact completes_guarded _ (completes_next _) (completes_next _)
  | transmitDone => exact completes_transmitDone s
  | linkMark l k b => exact completes_linkMark l k b s
  | holdoverExpired => exact completes_holdoverExpired s
  | _ => exact completes_next _

/-- Settles O3: each command is an event, and an event leaves the queue. -/
theorem everyCommandCompletes : Obligations.EveryCommandCompletes := by
  intro c s
  obtain ⟨t, ht⟩ := exec_completes c s
  obtain ⟨hpending, hchoices⟩ := sameQueue_event (event_of_exec ht)
  exact ⟨t, ht, hpending, hchoices⟩

/-! ## Resets -/

/-- Settles O4: the reset state is the tables' values, and each link's is the same. -/
theorem powerOnResetGivesTheTablesValues : Obligations.PowerOnResetGivesTheTablesValues := by
  intro baud1 baud0 haltn ev s
  refine ⟨_, rfl, rfl, rfl, rfl, rfl, rfl, rfl, fun l => ?dir, fun l => ?rx, fun l => ?qual, rfl, rfl, rfl, rfl, rfl, rfl, rfl, ?rate, rfl⟩
  case dir | rx | qual => rw [link, State.powerOn, Per6.get_all]; rfl
  case rate => cases baud1 <;> cases baud0 <;> rfl

/-- RESTART's OK leaves the line while its restart is pending (R138). -/
theorem restartDue_of_restartOk {r : Response} {s : State} (hsending : s.channel.sending = some { frame := .response r, left := 0 })
    (hkind : r.kind = 0x82) (hstatus : r.status = .ok) (hpending : s.channel.handling.isSome) : restartDue s = true := by
  simp [restartDue, hsending, restartPending, hpending, isRestartOk, hkind, hstatus]

theorem exec_transmitDone_of_restartDue {f : Outgoing} {s : State} (hsending : s.channel.sending = some { frame := f, left := 0 })
    (hdue : restartDue s = true) : exec .transmitDone s = .next (restarted s) := by
  change execTransmitDone s = _
  simp [execTransmitDone, hsending, hdue]

theorem link_restarted (l : LinkNo) (s : State) : link l (restarted s) = restartedLink (link l s) := Per6.get_map _ _ l

theorem raised_of_disabled {n : Notice} {u : NoticeUnit} (h : u.mask.getLsbD (maskBit (noticeKey n)) = false) : raised n u = u :=
  if_neg (by simp [h])

theorem raised_of_enabled {n : Notice} {u : NoticeUnit} (h : u.mask.getLsbD (maskBit (noticeKey n)) = true) :
    raised n u = { u with unsent := putNotice n u.unsent } := if_pos h

theorem restarted_notices {s : State} (hmask : s.notices.mask.getLsbD 0 = true) : (restarted s).notices =
    { unsent := [.ready .restart], window := [], resend := [], nextSeq := 0, retry := 0, timer := none, liveness := .live,
      timeout := s.notices.timeout, mask := s.notices.mask } :=
  raised_of_enabled (n := .ready .restart) (u := { NoticeUnit.reset with unsent := [], timeout := s.notices.timeout, mask := s.notices.mask }) hmask

/-- Settles O5: both commands leave `restarted`, whose blocks are read off one by one. -/
theorem restartTakesEffectKeepsTheSettings : Obligations.RestartTakesEffectKeepsTheSettings := by
  intro r s hsending hkind hstatus hpending hmask
  have hdue := restartDue_of_restartOk hsending hkind hstatus hpending
  refine ⟨restarted s, congrArg Host.Outcome.next (if_pos hdue), exec_transmitDone_of_restartDue hsending hdue, rfl, rfl, rfl, rfl, rfl, rfl,
    fun l => ?dir, fun l => ?rx, fun l => ?qual, rfl, rfl, rfl, rfl, rfl, fun o => ?pulse, rfl, restarted_notices hmask⟩
  case dir | rx | qual => rw [link_restarted]; rfl
  case pulse => exact Per4.get_map _ _ o

/-! ## The transmitter -/

theorem noticeOffer_of_quiet {u : NoticeUnit} (h : u.liveness = .quiet) : noticeOffer u = none := by
  rw [noticeOffer, h]

theorem noticeOffer_of_resend {u : NoticeUnit} {q : SeqNo} {qs : List SeqNo} (hlive : u.liveness = .live) (h : u.resend = q :: qs) :
    noticeOffer u = (u.window.find? (fun n => n.seq == q)).map .again := by
  rw [noticeOffer, hlive, h]

theorem noticeOffer_of_no_resend {u : NoticeUnit} (hlive : u.liveness = .live) (h : u.resend = []) :
    noticeOffer u = if u.window.length < 4 then u.unsent.head?.map .fresh else none := by
  rw [noticeOffer, hlive, h]
  rfl

/-- With an idle line and no ready response the notice unit's offer is what the transmitter begins (R137, R166). -/
theorem transmit_of_no_response {s : State} (hidle : s.channel.sending = none) (h : ∀ r rest, s.channel.responses ≠ .filled r :: rest) :
    transmit s = (noticeOffer s.notices).elim s (fun o => beginNotice o s) := by
  unfold transmit
  rw [hidle]
  dsimp only
  split
  · rename_i r rest heq
    exact absurd heq (h r rest)
  · split <;> rename_i heq <;> rw [heq] <;> rfl

theorem beginNotice_again {q : SeqNo} {qs : List SeqNo} (n : SentNotice) {s : State} (h : s.notices.resend = q :: qs) :
    beginNotice (.again n) s = { s with
      channel := sendFrame (.notice n) s.channel
      notices := { s.notices with resend := qs, timer := some (s.notices.timeout * 1250000) } } := by
  rw [beginNotice, h]
  rfl

theorem beginNotice_fresh {n : Notice} {ns : List Notice} {s : State} (h : s.notices.unsent = n :: ns) :
    beginNotice (.fresh n) s = { s with
      channel := sendFrame (.notice { seq := s.notices.nextSeq, notice := n }) s.channel
      notices := { s.notices with
        unsent := ns, window := s.notices.window ++ [{ seq := s.notices.nextSeq, notice := n }], nextSeq := s.notices.nextSeq + 1,
        timer := some (s.notices.timeout * 1250000) }
      sched := recordReport s.notices.nextSeq n s.sched } := by
  rw [beginNotice, h]
  rfl

/-- Settles O6: the transmitter's choice, then what each offer of the notice unit begins. -/
theorem readyResponseGoesBeforeAnyNotice : Obligations.ReadyResponseGoesBeforeAnyNotice := by
  intro s
  refine ⟨fun hbusy => ?busy, fun hidle => ⟨fun r rest hready => transmit_ready hidle hready, fun hno =>
    ⟨fun hquiet => ?quiet, fun hlive q qs n hresend hfind => ?again, fun hlive hresend hnothing => ?nothing,
      fun hlive hresend hroom n ns hunsent => ?fresh⟩⟩⟩
  case busy =>
    obtain ⟨f, hf⟩ := Option.isSome_iff_exists.mp hbusy
    exact transmit_busy hf
  all_goals rw [transmit_of_no_response hidle hno]
  case quiet => rw [noticeOffer_of_quiet hquiet, Option.elim_none]
  case again => rw [noticeOffer_of_resend hlive hresend, hfind, Option.map_some, Option.elim_some, beginNotice_again n hresend]
  case nothing =>
    rw [noticeOffer_of_no_resend hlive hresend]
    obtain hfull | hnone := hnothing
    · rw [if_neg (Nat.not_lt.mpr hfull), Option.elim_none]
    · rw [hnone, List.head?_nil, Option.map_none, ite_self, Option.elim_none]
  case fresh =>
    rw [noticeOffer_of_no_resend hlive hresend, if_pos hroom, hunsent, List.head?_cons, Option.map_some, Option.elim_some,
      beginNotice_fresh hunsent]
    cases n <;> rfl

/-- Settles O7: only RESTART's OK, while a restart is pending, does not free the line. -/
theorem transmitDoneFreesTheLine : Obligations.TransmitDoneFreesTheLine := by
  have hdone {f : Outgoing} {s : State} (hsending : s.channel.sending = some { frame := f, left := 0 }) (hdue : restartDue s = false) :
      exec .transmitDone s = .next (transmit { s with channel := freeLine f s.channel }) := by
    change execTransmitDone s = _
    simp [execTransmitDone, hsending, hdue]
  refine fun s r n => ⟨fun hsending hnot => hdone hsending ?_, fun hsending => hdone hsending ?_⟩
  · simpa [restartDue, hsending, restartPending, isRestartOk] using hnot
  · simp [restartDue, hsending, isRestartOk]

theorem expireAck_of_retry_left {u : NoticeUnit} (h : u.retry + 1 < 3) :
    expireAck u = { u with retry := u.retry + 1, resend := u.window.map SentNotice.seq, timer := none } := if_pos h

theorem expireAck_of_last_retry {u : NoticeUnit} (h : u.retry + 1 = 3) :
    expireAck u = { u with retry := 3, liveness := .quiet, resend := [], timer := none } := if_neg (by omega)

/-- Settles O8: the two outcomes of the acknowledgement timer's expiry. -/
theorem ackTimerExpiryResendsOrGoesQuiet : Obligations.AckTimerExpiryResendsOrGoesQuiet := by
  intro s hexpired
  have hexec : exec .ackTimerExpiry s = .next (transmit { s with notices := expireAck s.notices }) := if_pos hexpired
  rw [hexec]
  exact ⟨fun hleft => by rw [expireAck_of_retry_left hleft], fun hlast => by rw [expireAck_of_last_retry hlast]⟩

/-! ## Raising notices -/

/-- A raise whose key has no unsent notice goes to the young end. -/
theorem putNotice_of_new {n : Notice} {l : List Notice} (h : ∀ m ∈ l, noticeKey m ≠ noticeKey n) : putNotice n l = l ++ [n] := by
  induction l with
  | nil => rfl
  | cons m ms ih =>
    obtain ⟨hm, hms⟩ := List.forall_mem_cons.mp h
    rw [putNotice, if_neg hm, ih hms, List.cons_append]

/-- A raise whose key has an unsent notice is folded into the first one, in its place. -/
theorem putNotice_of_held {n m : Notice} {before after : List Notice} (hm : noticeKey m = noticeKey n)
    (h : ∀ x ∈ before, noticeKey x ≠ noticeKey n) : putNotice n (before ++ m :: after) = before ++ coalesce m n :: after := by
  induction before with
  | nil => exact if_pos hm
  | cons x xs ih =>
    obtain ⟨hx, hxs⟩ := List.forall_mem_cons.mp h
    rw [List.cons_append, putNotice, if_neg hx, ih hxs, List.cons_append]

theorem countFault_of_new {c : FaultCause} {n : Nat} {es : List (FaultCause × Nat)} (h : ∀ e ∈ es, e.1 ≠ c) :
    countFault c n es = es ++ [(c, n)] := by
  induction es with
  | nil => rfl
  | cons e es ih =>
    obtain ⟨he, hes⟩ := List.forall_mem_cons.mp h
    rw [countFault, if_neg he, ih hes, List.cons_append]

theorem countFault_of_held {c : FaultCause} {n k : Nat} {before after : List (FaultCause × Nat)} (h : ∀ e ∈ before, e.1 ≠ c) :
    countFault c n (before ++ (c, k) :: after) = before ++ (c, min (k + n) 255) :: after := by
  induction before with
  | nil => exact if_pos rfl
  | cons e es ih =>
    obtain ⟨he, hes⟩ := List.forall_mem_cons.mp h
    rw [List.cons_append, countFault, if_neg he, ih hes, List.cons_append]

/-- Settles O12: where a raise is put, and what each kind's fold keeps. -/
theorem raiseIsFoldedIntoTheUnsentNotice : Obligations.RaiseIsFoldedIntoTheUnsentNotice := by
  refine ⟨fun n u => ⟨raised_of_disabled, fun henabled => ?put⟩, fun _ _ _ _ _ _ _ _ => rfl, ?time, fun _ _ => rfl, fun _ _ => rfl,
    fun _ _ _ _ _ _ _ _ _ => rfl, fun c es hnew => ?newFault, fun c k before after hother => ?heldFault⟩
  case put =>
    rw [raised_of_enabled henabled]
    refine ⟨fun hnew => by rw [putNotice_of_new hnew], fun before m after hunsent hm hother => ?_⟩
    rw [hunsent, putNotice_of_held hm hother]
  case time =>
    intro st pr src g h j i k st' pr' src' g' h' j' i' k'
    cases j' <;> rfl
  case newFault => exact congrArg Notice.fault (countFault_of_new hnew)
  case heldFault => exact congrArg Notice.fault (countFault_of_held hother)

end Sys2Proof.Machine
end

section
/-! SUPPORT. The idle step: which events are due after one tick, each once, and the order they are put in (log entries 1, 3). -/

namespace Sys2Proof.Machine

/-! ## Events that are due -/

theorem mem_dueIf {due : Bool} {c d : Instr} : c ∈ dueIf due d ↔ due = true ∧ c = d := by
  cases due <;> simp [dueIf]

theorem dueIf_sublist (due : Bool) (c : Instr) : (dueIf due c).Sublist [c] := by
  cases due
  · exact List.nil_sublist _
  · exact List.Sublist.refl _

/-- The events that the part makes itself other than taking a request. -/
def ownEvent : Instr → Bool
  | .generatorStep | .lossTimerExpiry _ | .holdoffTimerExpiry _ | .caughtUpMarkLeaves _ | .frameTimerExpiry | .ackTimerExpiry | .transmitDone
  | .restartTakesEffect => true
  | _ => false

theorem ownEvent_requestCommand (kind : Byte) : ownEvent (requestCommand kind) = false := by
  unfold requestCommand
  split <;> rfl

theorem requestCommand_ne {c : Instr} (h : ownEvent c = true) (kind : Byte) : requestCommand kind ≠ c := by
  rintro rfl
  rw [ownEvent_requestCommand] at h
  cases h

theorem oldestRequest_eq_some_iff {s : State} {r : Request} :
    oldestRequest s = some r ↔ s.channel.handling = none ∧ s.channel.requests.head? = some r := by
  unfold oldestRequest
  split <;> rename_i h <;> simp [h]

theorem mem_dueRequest {c : Instr} {s : State} :
    c ∈ dueRequest s ↔ s.channel.handling = none ∧ ∃ r, s.channel.requests.head? = some r ∧ requestCommand r.kind = c := by
  unfold dueRequest
  split
  · rename_i r hr
    obtain ⟨hfree, hhead⟩ := oldestRequest_eq_some_iff.mp hr
    rw [List.mem_singleton, hhead]
    exact ⟨fun h => ⟨hfree, r, rfl, h.symm⟩, fun ⟨_, _, hx, h⟩ => by rw [← h, Option.some.inj hx]⟩
  · rename_i hnone
    refine ⟨nofun, fun ⟨hfree, r, hhead, _⟩ => ?_⟩
    rw [oldestRequest_eq_some_iff.mpr ⟨hfree, hhead⟩] at hnone
    cases hnone

theorem not_mem_dueRequest {c : Instr} (h : ownEvent c = true) (s : State) : c ∉ dueRequest s := fun hmem => by
  obtain ⟨-, r, -, hr⟩ := mem_dueRequest.mp hmem
  exact requestCommand_ne h r.kind hr

theorem frameSent_iff {s : State} : frameSent s = true ↔ ∃ f, s.channel.sending = some { frame := f, left := 0 } := by
  unfold frameSent
  split
  · rename_i x hx
    rw [decide_eq_true_iff, hx]
    exact ⟨fun h => ⟨x.frame, by rw [← h]⟩, fun ⟨f, hf⟩ => by rw [Option.some.inj hf]⟩
  · rename_i hnone
    simp [hnone]

theorem restartDue_iff {s : State} : restartDue s = true ↔ RestartLeaves s := by
  unfold restartDue RestartLeaves
  split
  · rename_i x hx
    obtain ⟨f, n⟩ := x
    rw [hx]
    cases f with
    | response r =>
      simp only [restartPending, isRestartOk, Bool.and_eq_true, decide_eq_true_iff, Option.some.injEq, Transmission.mk.injEq, Outgoing.response.injEq]
      exact ⟨fun ⟨⟨hleft, hpending⟩, hok⟩ => ⟨hpending, r, ⟨rfl, hleft⟩, hok⟩, fun ⟨hpending, _, ⟨hr, hleft⟩, hok⟩ => ⟨⟨hleft, hpending⟩, hr ▸ hok⟩⟩
    | notice m => simp [isRestartOk]
  · rename_i hnone
    simp [hnone]

theorem frameSent_of_restartDue {s : State} (h : restartDue s = true) : frameSent s = true := by
  obtain ⟨-, r, hsending, -⟩ := restartDue_iff.mp h
  exact frameSent_iff.mpr ⟨_, hsending⟩

theorem markMayLeave_iff {l : LinkNo} {s : State} :
    markMayLeave l s = true ↔ mayEmit s.core = true ∧ (link l s).pair.busy = 0 ∧ (link l s).pair.waiting ≠ [] := by
  simp [markMayLeave, and_assoc]

theorem stepDue_iff {c : Core} : stepDue c = true ↔ c.gen.running = true ∧ c.gen.spacing ≤ c.gen.elapsed := by
  simp [stepDue]

theorem mem_dueOnLink {c : Instr} {l : LinkNo} {s : State} :
    c ∈ dueOnLink s l ↔ ((link l s).qual.loss = some 0 ∧ c = .lossTimerExpiry l)
      ∨ (((link l s).qual.state = .failed ∧ (link l s).qual.hold = some 0) ∧ c = .holdoffTimerExpiry l)
      ∨ (markMayLeave l s = true ∧ c = .caughtUpMarkLeaves l) := by
  simp only [dueOnLink, List.mem_append, mem_dueIf, Bool.and_eq_true, decide_eq_true_iff, or_assoc]

/-- The end of a frame is RESTART's taking effect or the freeing of the line, never both. -/
theorem mem_dueSent {c : Instr} {s : State} :
    c ∈ dueIf (frameSent s) (if restartDue s then .restartTakesEffect else .transmitDone)
      ↔ (RestartLeaves s ∧ c = .restartTakesEffect) ∨ ((¬RestartLeaves s ∧ frameSent s = true) ∧ c = .transmitDone) := by
  rw [mem_dueIf, ← restartDue_iff]
  cases hdue : restartDue s
  · simp
  · simp [frameSent_of_restartDue hdue]

theorem mem_dueEvents {c : Instr} {s : State} :
    c ∈ dueEvents s ↔ (stepDue s.core = true ∧ c = .generatorStep) ∨ (∃ l, c ∈ dueOnLink s l)
      ∨ (s.channel.frameTimer = some 0 ∧ c = .frameTimerExpiry) ∨ (s.notices.timer = some 0 ∧ c = .ackTimerExpiry)
      ∨ ((RestartLeaves s ∧ c = .restartTakesEffect) ∨ ((¬RestartLeaves s ∧ frameSent s = true) ∧ c = .transmitDone)) ∨ c ∈ dueRequest s := by
  unfold dueEvents
  simp only [List.mem_append, mem_dueSent]
  simp only [List.mem_flatMap, mem_allLinks, true_and, mem_dueIf, decide_eq_true_iff, or_assoc]

/-- The due events are those that the statement's word names. -/
theorem mem_dueEvents_iff (s : State) (c : Instr) : c ∈ dueEvents s ↔ EventDue s c := by
  rw [mem_dueEvents]
  simp only [mem_dueOnLink]
  cases c with
  | generatorStep => simp [EventDue, stepDue_iff, not_mem_dueRequest (c := .generatorStep) rfl]
  | lossTimerExpiry l => simp [EventDue, not_mem_dueRequest (c := .lossTimerExpiry l) rfl]
  | holdoffTimerExpiry l => simp [EventDue, not_mem_dueRequest (c := .holdoffTimerExpiry l) rfl]
  | caughtUpMarkLeaves l => simp [EventDue, not_mem_dueRequest (c := .caughtUpMarkLeaves l) rfl, markMayLeave_iff]
  | frameTimerExpiry => simp [EventDue, not_mem_dueRequest (c := .frameTimerExpiry) rfl]
  | ackTimerExpiry => simp [EventDue, not_mem_dueRequest (c := .ackTimerExpiry) rfl]
  | transmitDone => simp [EventDue, not_mem_dueRequest (c := .transmitDone) rfl, frameSent_iff]
  | restartTakesEffect => simp [EventDue, not_mem_dueRequest (c := .restartTakesEffect) rfl]
  | _ => simp [EventDue, mem_dueRequest]

/-! ## Each due event once -/

/-- Every event that can be due, in the order they are looked for; `sent` stands for the end of a frame. -/
def possibleEvents (sent : Instr) : List Instr :=
  [.generatorStep] ++ allLinks.flatMap (fun l => [.lossTimerExpiry l, .holdoffTimerExpiry l, .caughtUpMarkLeaves l]) ++ [.frameTimerExpiry] ++ [.ackTimerExpiry]
    ++ [sent]

theorem nodup_possibleEvents {sent : Instr} (h : sent = .restartTakesEffect ∨ sent = .transmitDone) : (possibleEvents sent).Nodup := by
  obtain rfl | rfl := h <;> decide

theorem ownEvent_of_possible {sent c : Instr} (h : ownEvent sent = true) (hc : c ∈ possibleEvents sent) : ownEvent c = true := by
  simp only [possibleEvents, List.mem_append, List.mem_flatMap, List.mem_cons, List.not_mem_nil, or_false] at hc
  obtain (((rfl | ⟨l, -, rfl | rfl | rfl⟩) | rfl) | rfl) | rfl := hc
  iterate 6 rfl
  exact h

theorem dueOnLink_sublist (s : State) (l : LinkNo) :
    (dueOnLink s l).Sublist [.lossTimerExpiry l, .holdoffTimerExpiry l, .caughtUpMarkLeaves l] :=
  ((dueIf_sublist _ _).append (dueIf_sublist _ _)).append (dueIf_sublist _ _)

theorem nodup_dueRequest (s : State) : (dueRequest s).Nodup := by
  unfold dueRequest
  split
  · exact List.nodup_singleton _
  · exact List.nodup_nil

theorem nodup_dueEvents (s : State) : (dueEvents s).Nodup := by
  unfold dueEvents
  have hsent : (if restartDue s then Instr.restartTakesEffect else .transmitDone) = .restartTakesEffect
      ∨ (if restartDue s then Instr.restartTakesEffect else .transmitDone) = .transmitDone := by
    cases restartDue s <;> simp
  generalize (if restartDue s then Instr.restartTakesEffect else .transmitDone) = sent at hsent
  have hown : ownEvent sent = true := by obtain rfl | rfl := hsent <;> rfl
  have hsub := ((((dueIf_sublist (stepDue s.core) .generatorStep).append (List.Sublist.flatMap_right allLinks fun l _ => dueOnLink_sublist s l)).append
    (dueIf_sublist (decide (s.channel.frameTimer = some 0)) .frameTimerExpiry)).append
    (dueIf_sublist (decide (s.notices.timer = some 0)) .ackTimerExpiry)).append (dueIf_sublist (frameSent s) sent)
  refine List.nodup_append.mpr ⟨hsub.nodup (nodup_possibleEvents hsent), nodup_dueRequest s, fun a ha b hb hab => ?_⟩
  exact not_mem_dueRequest (ownEvent_of_possible hown (hsub.subset ha)) s (hab ▸ hb)

/-- The free order is an order of the same events. -/
theorem arrange_perm (k : Nat) (es : List Instr) : (arrange k es).Perm es := by
  induction es generalizing k with
  | nil => exact .refl _
  | cons c cs ih =>
    cases cs with
    | nil => exact .refl _
    | cons d ds =>
      have hplace := Nat.mod_lt (Config.tieBreak k) (Nat.succ_pos (arrange (k + 1) (d :: ds)).length)
      exact (List.perm_insertIdx c _ (Nat.le_of_lt_succ hplace)).trans ((ih (k + 1)).cons c)

/-- Settles O2: the tick writes the counters the statement names, and the due events are put into the queue in a free order. -/
theorem idleStepIsOneTick : Obligations.IdleStepIsOneTick := by
  intro s u hempty hu
  obtain rfl : u = advance s := hu
  have hperm := arrange_perm (transmit (advance s)).choices (dueEvents (transmit (advance s)))
  refine ⟨tick s, ?_, rfl, hperm.nodup_iff.mpr (nodup_dueEvents _), fun c => ?_⟩
  · unfold step
    rw [hempty]
  · exact hperm.mem_iff.trans ((mem_dueEvents_iff _ c).trans (by cases c <;> exact Iff.rfl))

end Sys2Proof.Machine
end

section
/-! SUPPORT. The requests whose effect is one block or none: the general checks, PING, RESTART, the reading requests and the settings (R135, R141 to R149, R153, R156, R157,
R161). -/

namespace Sys2Proof.Machine

/-! ## The general checks, PING, RESTART -/

/-- A taken request that its body refuses is answered with the status alone and has no other effect. -/
theorem take_refused {c : Instr} {body : Request → State → Answer × State} {tag kind : Byte} {payload : List Byte} {s : State} {st : Status}
    (h : TakesRequest tag kind payload s) (hc : requestCommand kind = c) (hk : responseKind kind = kind + 0x80)
    (hb : body ⟨tag, kind, payload⟩ (dequeue s) = no st (dequeue s)) : take c body s = .next (answerWith tag kind st [] s) := by
  rw [take_answers h hc hb rfl, hk]
  rfl

theorem requestCommand_of_undefined {kind : Byte} (h : kind.toNat = 0 ∨ 0x14 < kind.toNat) : requestCommand kind = .undefinedRequest := by
  unfold requestCommand
  split
  iterate 20 (rename_i heq; rw [heq] at h; omega)
  rfl

/-- A request of a defined kind with a length that it does not allow (Table 9-5). -/
theorem exec_of_badLength {tag kind : Byte} {payload : List Byte} {s : State} (h : TakesRequest tag kind payload s) (hlow : 1 ≤ kind.toNat)
    (hhigh : kind.toNat ≤ 0x14) (hl : payload.length ∉ allowedLengths kind) : exec (requestCommand kind) s = .next (answerWith tag kind .badLength [] s) := by
  obtain ⟨n, hn⟩ : ∃ n, kind.toNat = n := ⟨_, rfl⟩
  obtain rfl : kind = BitVec.ofNat 8 n := BitVec.eq_of_toNat_eq (by rw [hn, toNat_byte (by omega)])
  rw [hn] at hlow hhigh
  clear hn
  interval_cases n <;> exact take_refused h rfl rfl (if_neg hl)

/-- Settles O13: undefined kinds have one command, and every defined kind begins with its length check. -/
theorem generalChecksAnswerKindAndLength : Obligations.GeneralChecksAnswerKindAndLength := by
  refine fun tag kind payload s h => ⟨fun hkind r hr => ?_, exec_of_badLength h⟩
  subst hr
  exact take_answers (a := refuse .unknownKind) (t := dequeue s) h (requestCommand_of_undefined hkind) rfl rfl

/-- Settles O14: PING has no check but its length. -/
theorem pingReportsThePart : Obligations.PingReportsThePart := fun _ s h =>
  take_answerWith (a := ⟨.ok, pingFields⟩) (t := dequeue s) h rfl rfl (List.mem_singleton_self 0) rfl rfl

theorem oldestRequest_of_handling {s : State} (h : s.channel.handling.isSome) : oldestRequest s = none := by
  obtain ⟨r, hr⟩ := Option.isSome_iff_exists.mp h
  rw [oldestRequest, hr]

/-- While a restart is pending no request is taken (R138). -/
theorem take_of_handling {c : Instr} {body : Request → State → Answer × State} {s : State} (h : s.channel.handling.isSome) :
    take c body s = .next s := by
  refine take_idle fun r hr => ?_
  rw [oldestRequest_of_handling h] at hr
  cases hr

/-- Settles O15: RESTART writes the handler before its response is placed. -/
theorem restartIsAnsweredAndHeld : Obligations.RestartIsAnsweredAndHeld := by
  refine ⟨fun tag s h => ?_, fun kind s hpending => ?_⟩
  · have hexec : exec .restart s = take .restart (fun r => withLength [0] (fun _ s => ok [] (holdRestart r s)) r) s := rfl
    rw [hexec, take_eq (c := .restart) h rfl]
    exact congrArg Host.Outcome.next (transmit_placeResponse h.reserved_mem)
  · unfold requestCommand
    split <;> exact take_of_handling hpending

/-! ## Reading -/

section
variable {i : Byte} {n : PlanNo} {s : State}

theorem planRead_of_index_out_of_range (s : State) (h : 3 < i.toNat) : planRead [i] s = no .badValue s := by
  rw [planRead, byteAt_cons_zero, planOf_eq_none_iff.mpr h]

theorem planRead_of_empty (hi : i.toNat = n.val) (h : s.plans.records.get n = none) : planRead [i] s = no .planEmpty s := by
  rw [planRead, byteAt_cons_zero, planOf_eq_some_iff.mpr hi]
  dsimp only
  rw [h]

theorem planRead_of_loaded {p : Plan} (hi : i.toNat = n.val) (h : s.plans.records.get n = some p) :
    planRead [i] s = ok (u8 n.val ++ u8 (codeFlag (s.plans.active == some n)) ++ planBytes p) s := by
  rw [planRead, byteAt_cons_zero, planOf_eq_some_iff.mpr hi]
  dsimp only
  rw [h]

end

/-- A byte is the one-byte field of its own number. -/
theorem u8_of_toNat_eq {i : Byte} {n : Nat} (h : i.toNat = n) : u8 n = [i] := by
  rw [← h]
  exact congrArg (fun b => [b]) (BitVec.ofNat_toNat 8 i)

/-- Settles O18: one lemma for each outcome of PLAN_READ. -/
theorem planReadReturnsTheRecord : Obligations.PlanReadReturnsTheRecord := by
  intro tag i s h
  have hexec : exec .planRead s = take .planRead (withLength [1] planRead) s := rfl
  have hlen : [i].length ∈ [1] := List.mem_singleton_self 1
  rw [hexec]
  refine ⟨fun hlarge => ?outOfRange, fun n hi => ⟨fun hempty => ?empty, fun p hp => ?loaded⟩⟩
  case outOfRange => exact take_answerWith h rfl rfl hlen (planRead_of_index_out_of_range (dequeue s) hlarge) rfl
  case empty => exact take_answerWith h rfl rfl hlen (planRead_of_empty (s := dequeue s) hi hempty) rfl
  case loaded =>
    refine (take_answerWith h rfl rfl hlen (planRead_of_loaded (s := dequeue s) hi hp) rfl).trans ?_
    rw [u8_of_toNat_eq hi]
    by_cases hactive : s.plans.active = some n <;> simp [hactive, codeFlag, u8, leBytes]

theorem actionList_of_start_out_of_range {i : Byte} (s : State) (h : 31 < i.toNat) : actionList [i] s = no .badValue s := if_pos h

theorem actionList_of_start {i : Byte} (s : State) (h : i.toNat ≤ 31) : actionList [i] s =
    ok (u8 s.sched.queue.length ++ u8 ((s.sched.queue.drop i.toNat).take 8).length ++ ((s.sched.queue.drop i.toNat).take 8).flatMap entryBytes) s :=
  if_neg (Nat.not_lt.mpr h)

section
variable (e : Entry)

theorem codeOutcome_lt (o : Option Ending) : codeOutcome o < 256 := by
  rcases o with _ | o
  · decide
  · cases o <;> decide

theorem codeOrigin_lt (o : Origin) : codeOrigin o < 256 := by
  cases o with
  | channel => decide
  | link l =>
    have hl := l.isLt
    exact Nat.lt_trans hl (by decide)

theorem length_entryBytes : (entryBytes e).length = 27 := by cases h : e.action <;> (rw [entryBytes, h]; rfl)

theorem entryBytes_id (h : e.id ≤ 255) : byteAt (entryBytes e) 0 = e.id := toNat_byte (by omega)
theorem entryBytes_kind : byteAt (entryBytes e) 1 = codeKind e.action := by cases h : e.action <;> (rw [entryBytes, h]; rfl)
theorem entryBytes_due : timeAt (entryBytes e) 2 = e.due := timeAt_of_u64 rfl
theorem entryBytes_finished : byteAt (entryBytes e) 10 = codeFlag e.outcome.isSome := toNat_byte (codeFlag_lt _)
theorem entryBytes_outcome : byteAt (entryBytes e) 11 = codeOutcome e.outcome := toNat_byte (codeOutcome_lt _)
theorem entryBytes_origin : byteAt (entryBytes e) 12 = codeOrigin e.origin := toNat_byte (codeOrigin_lt _)
theorem entryBytes_sends (h : e.sends ≤ 255) : byteAt (entryBytes e) 15 = e.sends := toNat_byte (by omega)
theorem entryBytes_reported : byteAt (entryBytes e) 16 = codeFlag e.reportedIn.isSome := toNat_byte (codeFlag_lt _)
theorem entryBytes_action : (entryBytes e).drop 19 = actionBytes e.action := rfl

/-- A 16-bit number that may be absent is read back with 0 for absent. -/
theorem numAt_of_optional {b : List Byte} {off : Nat} {o : Option (BitVec 16)} (h : (b.drop off).take 2 = u16 ((o.map BitVec.toNat).getD 0)) :
    numAt b off 2 = (o.map BitVec.toNat).getD 0 := by
  refine numAt_of_u16 h ?_
  cases o with
  | none => exact Nat.zero_le _
  | some v =>
    have hv : v.toNat < 65536 := v.isLt
    exact Nat.le_of_lt_succ hv

theorem entryBytes_orderId : numAt (entryBytes e) 13 2 = (e.orderId.map BitVec.toNat).getD 0 := numAt_of_optional rfl
theorem entryBytes_reportedIn : numAt (entryBytes e) 17 2 = (e.reportedIn.map BitVec.toNat).getD 0 := numAt_of_optional rfl

end

theorem codeFlag_isSome {α : Type} (o : Option α) [Decidable (o = none)] : codeFlag o.isSome = if o = none then 0 else 1 := by
  cases o <;> simp [codeFlag]

/-- Settles O21: the two reading requests have no effect; a listed entry's layout field by field. -/
theorem readingRequestsChangeNothing : Obligations.ReadingRequestsChangeNothing := by
  refine ⟨fun tag s h => ?timeRead, fun tag i s h => ?actionList, ?entry⟩
  case timeRead =>
    refine (take_answerWith (a := ⟨.ok, timeFields (dequeue s)⟩) (t := dequeue s) h rfl rfl (List.mem_singleton_self 0) rfl rfl).trans ?_
    change Host.Outcome.next (answerWith tag 0x0D .ok (timeFields s) s) = _
    unfold timeFields codeOpt
    cases s.core.remembered <;> cases s.sel.source <;> cases s.plans.active <;> rfl
  case actionList =>
    have hexec : exec .actionList s = take .actionList (withLength [1] actionList) s := rfl
    have hlen : [i].length ∈ [1] := List.mem_singleton_self 1
    rw [hexec]
    exact ⟨fun hlarge => take_answerWith h rfl rfl hlen (actionList_of_start_out_of_range (dequeue s) hlarge) rfl,
      fun hsmall => take_answerWith h rfl rfl hlen (actionList_of_start (dequeue s) hsmall) rfl⟩
  case entry =>
    rintro e b rfl
    refine ⟨length_entryBytes e, entryBytes_id e, entryBytes_due e, ?_, ?_, ?_, ?_, entryBytes_sends e, ?_, ?_,
      fun v hv => ?load, fun n hn => ?switch, fun out w q hp => ?pulse⟩
    · rw [entryBytes_finished, codeFlag_isSome]
    · rw [entryBytes_outcome]
      rfl
    · rw [entryBytes_origin]
      rfl
    · rw [entryBytes_orderId]
      cases e.orderId <;> rfl
    · rw [entryBytes_reported, codeFlag_isSome]
    · rw [entryBytes_reportedIn]
      cases e.reportedIn <;> rfl
    case load =>
      rw [entryBytes_kind, hv]
      exact ⟨rfl, timeAt_of_u64 (by rw [entryBytes_action, hv]; rfl)⟩
    case switch =>
      have hn4 := n.isLt
      have hdrop : (entryBytes e).drop 19 = actionBytes (.switch n) := by rw [entryBytes_action, hn]
      have hbyte : byteAt (entryBytes e) 19 = byteAt (actionBytes (.switch n)) 0 := by rw [← hdrop, byteAt_drop]
      rw [entryBytes_kind, hn, hbyte]
      refine ⟨rfl, toNat_byte (by omega), ?_⟩
      rw [← List.drop_drop (i := 1) (j := 19), hdrop]
      rfl
    case pulse =>
      have ho4 := out.isLt
      have hdrop : (entryBytes e).drop 19 = actionBytes (.pulse out w q) := by rw [entryBytes_action, hp]
      have hbyte : byteAt (entryBytes e) 19 = byteAt (actionBytes (.pulse out w q)) 0 := by rw [← hdrop, byteAt_drop]
      rw [entryBytes_kind, hp, hbyte]
      refine ⟨rfl, toNat_byte (by omega), numAt_of_u16 ?_, numAt_of_u16 ?_, ?_⟩
      · rw [← List.drop_drop (i := 1) (j := 19), hdrop]
        rfl
      · rw [← List.drop_drop (i := 3) (j := 19), hdrop]
        rfl
      · rw [← List.drop_drop (i := 5) (j := 19), hdrop]
        rfl

/-! ## Settings -/

theorem linkSet_of_number_out_of_range {i offset holdoff : Byte} (s : State) (h : 5 < i.toNat) : linkSet [i, offset, holdoff] s = no .badValue s := by
  rw [linkSet, byteAt_cons_zero, linkOf_eq_none_iff.mpr h]

theorem linkSet_of_link {i offset holdoff : Byte} {l : LinkNo} (s : State) (h : i.toNat = l.val) :
    linkSet [i, offset, holdoff] s = ok [i, offset, holdoff] (setLink l { link l s with offset := offset, holdoff := holdoff } s) := by
  rw [linkSet, byteAt_cons_zero, linkOf_eq_some_iff.mpr h]
  dsimp only
  rw [u8_of_toNat_eq h]
  rfl

/-- Settles O24: the link's number, then both settings at once. -/
theorem linkSetWritesBothSettings : Obligations.LinkSetWritesBothSettings := by
  intro tag i offset holdoff s h
  have hexec : exec .linkSet s = take .linkSet (withLength [3] linkSet) s := rfl
  have hlen : [i, offset, holdoff].length ∈ [3] := List.mem_singleton_self 3
  rw [hexec]
  exact ⟨fun hlarge => take_answerWith h rfl rfl hlen (linkSet_of_number_out_of_range (dequeue s) hlarge) rfl,
    fun l hi => take_answerWith h rfl rfl hlen (linkSet_of_link (dequeue s) hi) rfl⟩

theorem edgeChoiceOf_eq_none {v : Nat} (h : 3 < v) : edgeChoiceOf v = none := by
  unfold edgeChoiceOf
  split <;> first | omega | rfl

theorem polarityOf_eq_none {v : Nat} (h : 1 < v) : polarityOf v = none := by
  unfold polarityOf
  split <;> first | omega | rfl

theorem edgeChoiceOf_code (x : EdgeChoice) : edgeChoiceOf (BitVec.ofNat 8 (codeEdgeChoice x)).toNat = some x := by cases x <;> rfl
theorem polarityOf_code (x : Polarity) : polarityOf (BitVec.ofNat 8 (codePolarity x)).toNat = some x := by cases x <;> rfl

theorem edgesOf_eq_none {b : List Byte} (h : ∃ i < 4, 3 < byteAt b i) : edgesOf b = none := by
  obtain ⟨i, hi, hbad⟩ := h
  have hnone := edgeChoiceOf_eq_none hbad
  unfold edgesOf
  split
  · interval_cases i <;> simp_all
  · rfl

theorem polaritiesOf_eq_none {b : List Byte} (h : ∃ i < 4, 1 < byteAt b (4 + i)) : polaritiesOf b = none := by
  obtain ⟨i, hi, hbad⟩ := h
  have hnone := polarityOf_eq_none hbad
  unfold polaritiesOf
  split
  · interval_cases i <;> simp_all
  · rfl

/-- The eight bytes of a LINE_SET that takes these settings (Table 12-8). -/
def settingBytes (e : Per4 EdgeChoice) (q : Per4 Polarity) : List Byte :=
  e.toList.map (fun x => BitVec.ofNat 8 (codeEdgeChoice x)) ++ q.toList.map (fun x => BitVec.ofNat 8 (codePolarity x))

theorem edgesOf_settingBytes (e : Per4 EdgeChoice) (q : Per4 Polarity) : edgesOf (settingBytes e q) = some e := by
  have h0 : edgeChoiceOf (byteAt (settingBytes e q) 0) = some e.a0 := edgeChoiceOf_code e.a0
  have h1 : edgeChoiceOf (byteAt (settingBytes e q) 1) = some e.a1 := edgeChoiceOf_code e.a1
  have h2 : edgeChoiceOf (byteAt (settingBytes e q) 2) = some e.a2 := edgeChoiceOf_code e.a2
  have h3 : edgeChoiceOf (byteAt (settingBytes e q) 3) = some e.a3 := edgeChoiceOf_code e.a3
  rw [edgesOf, h0, h1, h2, h3]

theorem polaritiesOf_settingBytes (e : Per4 EdgeChoice) (q : Per4 Polarity) : polaritiesOf (settingBytes e q) = some q := by
  have h0 : polarityOf (byteAt (settingBytes e q) 4) = some q.a0 := polarityOf_code q.a0
  have h1 : polarityOf (byteAt (settingBytes e q) 5) = some q.a1 := polarityOf_code q.a1
  have h2 : polarityOf (byteAt (settingBytes e q) 6) = some q.a2 := polarityOf_code q.a2
  have h3 : polarityOf (byteAt (settingBytes e q) 7) = some q.a3 := polarityOf_code q.a3
  rw [polaritiesOf, h0, h1, h2, h3]

theorem lineSet_of_out_of_range {b : List Byte} (s : State) (h : edgesOf b = none ∨ polaritiesOf b = none) : lineSet b s = no .badValue s := by
  unfold lineSet
  split
  · rename_i hedges hpolarities
    rw [hedges, hpolarities] at h
    obtain h | h := h <;> cases h
  · rfl

theorem lineSet_of_settings (e : Per4 EdgeChoice) (q : Per4 Polarity) (s : State) : lineSet (settingBytes e q) s =
    ok (settingBytes e q ++ s.pulses.toList.flatMap (fun p => u8 (codeFlag p.active) ++ u16 p.width) ++ u8 s.capture.fifo.length ++ u16 s.capture.gap)
      { s with capture := { s.capture with edges := e }, pulses := setPolarities q s.pulses } := by
  rw [lineSet, edgesOf_settingBytes, polaritiesOf_settingBytes]
  rfl

/-- Settles O25: one setting out of range refuses all eight. -/
theorem lineSetTakesAllEightSettings : Obligations.LineSetTakesAllEightSettings := by
  intro tag b s hb h
  have hexec : exec .lineSet s = take .lineSet (withLength [8] lineSet) s := rfl
  have hlen : b.length ∈ [8] := List.mem_singleton.mpr hb
  rw [hexec]
  refine ⟨fun hbad => take_answerWith h rfl rfl hlen (lineSet_of_out_of_range (dequeue s) (hbad.imp edgesOf_eq_none polaritiesOf_eq_none)) rfl, ?_⟩
  rintro e q rfl
  exact take_answerWith h rfl rfl hlen (lineSet_of_settings e q (dequeue s)) rfl

theorem noticeSet_of_short_timeout {timeout mask : Byte} (s : State) (h : timeout.toNat < 5) : noticeSet [timeout, mask] s = no .badValue s := if_pos h

theorem noticeSet_of_mask_refused {timeout mask : Byte} (s : State) (h : maskAllowed mask = false) : noticeSet [timeout, mask] s = no .badValue s := by
  unfold noticeSet
  dsimp only
  split
  · rfl
  · exact if_neg (by simpa using h)

theorem noticeSet_of_allowed {timeout mask : Byte} (s : State) (htime : 5 ≤ timeout.toNat) (hmask : maskAllowed mask = true) :
    noticeSet [timeout, mask] s = ok [timeout, mask] { s with notices := { s.notices with timeout := timeout.toNat, mask := mask } } := by
  unfold noticeSet
  dsimp only
  rw [byteAt_cons_zero, if_neg (Nat.not_lt.mpr htime), u8_of_toNat_eq rfl]
  exact if_pos hmask

/-- Settles O26: the timeout is checked before the mask, and both refusals are the same. -/
theorem noticeSetTakesBothSettings : Obligations.NoticeSetTakesBothSettings := by
  intro tag timeout mask s h
  have hexec : exec .noticeSet s = take .noticeSet (withLength [2] noticeSet) s := rfl
  have hlen : [timeout, mask].length ∈ [2] := List.mem_singleton_self 2
  rw [hexec]
  refine ⟨fun hbad => ?_, fun htime hready hactions hunused => ?_⟩
  · have hrefused : noticeSet [timeout, mask] (dequeue s) = no .badValue (dequeue s) := by
      obtain htime | hmask := hbad
      · exact noticeSet_of_short_timeout _ htime
      · refine noticeSet_of_mask_refused _ ?_
        obtain hmask | hmask | hmask := hmask <;> simp only [maskAllowed, hmask, Bool.false_and, Bool.and_false, Bool.not_true]
    exact take_answerWith h rfl rfl hlen hrefused rfl
  · have hmask : maskAllowed mask = true := by rw [maskAllowed, hready, hactions, hunused]; rfl
    exact take_answerWith h rfl rfl hlen (noticeSet_of_allowed (dequeue s) htime hmask) rfl

/-! ## TIME_START's checks -/

section
variable {b : List Byte} {s : State}

theorem timeStart_of_wrong_state (h : s.core.state ≠ .idle ∨ (s.halt.policy = .freeze ∧ s.halt.level = .low)) :
    timeStart b s = no .wrongState s := by
  unfold timeStart
  extract_lets start
  by_cases hidle : s.core.state = .idle
  · rw [if_neg (not_not.mpr hidle), if_pos (h.resolve_left (not_not.mpr hidle))]
  · rw [if_pos hidle]

/-- Past the first two checks TIME_START reads the plan's index and record, and asks a MASTER plan for a start value (R150). -/
theorem timeStart_of_ready (hidle : s.core.state = .idle) (hhalt : ¬(s.halt.policy = .freeze ∧ s.halt.level = .low)) :
    timeStart b s = match planOf (byteAt b 0) with
      | none => no .badValue s
      | some i => match s.plans.records.get i with
        | none => no .planEmpty s
        | some p =>
          if p.role = .master ∧ (if b.length = 9 then some (timeAt b 1) else none) = none then no .badValue s
          else ok (u8 (codeCoreState (startTime i p (if b.length = 9 then some (timeAt b 1) else none) s).core.state)
              ++ u8 (codeFlag (startTime i p (if b.length = 9 then some (timeAt b 1) else none) s).core.valid))
            (startTime i p (if b.length = 9 then some (timeAt b 1) else none) s) := by
  unfold timeStart
  extract_lets start
  exact (if_neg (not_not.mpr hidle)).trans (if_neg hhalt)

end

/-- Settles O29: the checks in their order. -/
theorem timeStartIsRefusedInOrder : Obligations.TimeStartIsRefusedInOrder := by
  intro tag b s hb h
  have hexec : exec .timeStart s = take .timeStart (withLength [1, 9] timeStart) s := rfl
  have hlen : b.length ∈ [1, 9] := by simpa using hb
  rw [hexec]
  refine ⟨fun hwrong => take_answerWith h rfl rfl hlen (timeStart_of_wrong_state (s := dequeue s) hwrong) rfl, fun hidle hhalt => ?_⟩
  have hready := timeStart_of_ready (b := b) (s := dequeue s) hidle hhalt
  refine ⟨fun hlarge => ?outOfRange, fun n hn => ⟨fun hempty => ?empty, fun p hp hmaster hshort => ?master⟩⟩
  case outOfRange =>
    rw [planOf_eq_none_iff.mpr hlarge] at hready
    exact take_answerWith h rfl rfl hlen hready rfl
  case empty =>
    have hempty : (dequeue s).plans.records.get n = none := hempty
    rw [planOf_eq_some_iff.mpr hn] at hready
    dsimp only at hready
    rw [hempty] at hready
    exact take_answerWith h rfl rfl hlen hready rfl
  case master =>
    have hp : (dequeue s).plans.records.get n = some p := hp
    rw [planOf_eq_some_iff.mpr hn] at hready
    dsimp only at hready
    rw [hp, hshort] at hready
    dsimp only at hready
    rw [if_pos ⟨hmaster, rfl⟩] at hready
    exact take_answerWith h rfl rfl hlen hready rfl

end Sys2Proof.Machine
end

section
/-! SUPPORT. The requests that act on the notice unit, the halt line and the schedule: NOTICE_ACK, HALT_SET and ACTION_ADD (R93, R94, R109, R110, R154, R159, R160, R167). -/

namespace Sys2Proof.Machine

/-! ## NOTICE_ACK: the window split -/

theorem splitWindow_eq_none {q : SeqNo} {w : List SentNotice} (h : ∀ n ∈ w, n.seq ≠ q) : splitWindow q w = none := by
  induction w with
  | nil => rfl
  | cons n ns ih =>
    obtain ⟨hn, hns⟩ := List.forall_mem_cons.mp h
    rw [splitWindow, if_neg hn, ih hns]

theorem splitWindow_of_held {q : SeqNo} {before left : List SentNotice} {n : SentNotice} (hn : n.seq = q) (h : ∀ m ∈ before, m.seq ≠ q) :
    splitWindow q (before ++ n :: left) = some (before ++ [n], left) := by
  induction before with
  | nil => exact if_pos hn
  | cons m ms ih =>
    obtain ⟨hm, hms⟩ := List.forall_mem_cons.mp h
    rw [List.cons_append, splitWindow, if_neg hm, ih hms, List.cons_append]

theorem numAt_u16 (q : SeqNo) : BitVec.ofNat 16 (numAt (u16 q.toNat) 0 2) = q := by
  have hq : q.toNat < 65536 := q.isLt
  rw [numAt_of_u16 (v := q.toNat) rfl (Nat.le_of_lt_succ hq), BitVec.ofNat_toNat, BitVec.setWidth_eq]

theorem noticeAck_of_not_held {q : SeqNo} {s : State} (h : ∀ n ∈ s.notices.window, n.seq ≠ q) : noticeAck (u16 q.toNat) s = no .notFound s := by
  rw [noticeAck, numAt_u16, splitWindow_eq_none h]

theorem noticeAck_of_held {q : SeqNo} {before left : List SentNotice} {n : SentNotice} {s : State} (hw : s.notices.window = before ++ n :: left)
    (hn : n.seq = q) (h : ∀ m ∈ before, m.seq ≠ q) :
    noticeAck (u16 q.toNat) s = ok (u8 (before.length + 1) ++ u8 left.length)
      { s with notices := acknowledged (before ++ [n]) left s.notices, sched := (before ++ [n]).foldl releaseNotice s.sched } := by
  rw [noticeAck, numAt_u16, hw, splitWindow_of_held hn h]
  dsimp only
  rw [List.length_append]
  rfl

/-! ## What an acknowledged notice releases (R109, R110) -/

/-- The last 16 of a list of order ids. -/
def lastSpent (l : List OrderId) : List OrderId := l.drop (l.length - 16)

theorem lastSpent_of_short {l : List OrderId} (h : l.length ≤ 16) : lastSpent l = l := by
  rw [lastSpent, Nat.sub_eq_zero_of_le h, List.drop_zero]

theorem length_lastSpent (l : List OrderId) : (lastSpent l).length ≤ 16 := by
  rw [lastSpent, List.length_drop]
  omega

/-- Only the last ids of the front part matter once others follow. -/
theorem lastSpent_lastSpent_append (l m : List OrderId) : lastSpent (lastSpent l ++ m) = lastSpent (l ++ m) := by
  have hdrop : lastSpent l ++ m = (l ++ m).drop (l.length - 16) := (List.drop_append_of_le_length (Nat.sub_le _ _)).symm
  rw [hdrop, lastSpent, lastSpent, List.drop_drop, List.length_drop, List.length_append]
  congr 1
  omega

theorem spend_eq (o : Option OrderId) {l : List OrderId} (h : l.length ≤ 16) : spend o l = lastSpent (l ++ o.toList) := by
  cases o with
  | none => rw [Option.toList_none, List.append_nil, lastSpent_of_short h, spend]
  | some o =>
    rw [lastSpent, Option.toList_some, List.length_append]
    rfl

/-- An item carried by the notice of number `q` names this entry (R108, R109). -/
def carriedBy (q : SeqNo) (i : ActionItem) (e : Entry) : Bool := decide (e.id = i.id ∧ e.reportedIn = some q)

/-- The order id that the release of an item hands to the spent list. -/
def releasedOrder (q : SeqNo) (queue : List Entry) (i : ActionItem) : Option OrderId := (queue.find? (carriedBy q i)).bind Entry.orderId

/-- One item released: the entry that records its number leaves, and its order id is spent. -/
theorem releaseItem_eq {c : Schedule} (q : SeqNo) (i : ActionItem) (hids : (c.queue.map Entry.id).Nodup) (hspent : c.spent.length ≤ 16) :
    releaseItem q c i = { c with
      queue := c.queue.filter (fun e => !carriedBy q i e), spent := lastSpent (c.spent ++ (releasedOrder q c.queue i).toList) } := by
  have hpred : (fun e : Entry => decide (e.id = i.id) && (e.reportedIn == some q)) = carriedBy q i := funext fun e => by
    simp [carriedBy, Bool.beq_eq_decide_eq]
  unfold releaseItem releasedOrder
  rw [hpred]
  split
  · rename_i hnone
    have hstays : c.queue.filter (fun e => !carriedBy q i e) = c.queue :=
      List.filter_eq_self.mpr fun e he => by simpa using List.find?_eq_none.mp hnone e he
    rw [hnone, hstays, Option.bind_none, Option.toList_none, List.append_nil, lastSpent_of_short hspent]
  · rename_i e he
    have hcarried : e.id = i.id ∧ e.reportedIn = some q := of_decide_eq_true (List.find?_some (p := carriedBy q i) he)
    have hleaves : c.queue.filter (fun x => decide (x.id ≠ e.id)) = c.queue.filter (fun x => !carriedBy q i x) := by
      refine List.filter_congr fun x hx => ?_
      by_cases hid : x.id = e.id
      · obtain rfl : x = e := List.inj_on_of_nodup_map hids hx (List.mem_of_find?_eq_some he) hid
        simp [carriedBy, hcarried]
      · simp [carriedBy, hid, ← hcarried.1]
    rw [he, Option.bind_some, ← spend_eq e.orderId hspent]
    exact congrArg (fun queue => { c with queue := queue, spent := spend e.orderId c.spent }) hleaves

/-- The release of another item of the same notice does not touch this one's entry. -/
theorem releasedOrder_filter {q : SeqNo} {queue : List Entry} {i j : ActionItem} (h : j.id ≠ i.id) :
    releasedOrder q (queue.filter (fun e => !carriedBy q i e)) j = releasedOrder q queue j := by
  unfold releasedOrder
  rw [List.find?_filter]
  congr 2
  funext e
  by_cases hj : e.id = j.id
  · simp [carriedBy, hj, h]
  · simp [carriedBy, hj]

theorem releaseItems_eq (q : SeqNo) (items : List ActionItem) {c : Schedule} (hitems : (items.map ActionItem.id).Nodup)
    (hids : (c.queue.map Entry.id).Nodup) (hspent : c.spent.length ≤ 16) :
    items.foldl (releaseItem q) c = { c with
      queue := c.queue.filter (fun e => ¬(e.id ∈ items.map ActionItem.id ∧ e.reportedIn = some q))
      spent := lastSpent (c.spent ++ items.filterMap (releasedOrder q c.queue)) } := by
  induction items generalizing c with
  | nil => simp [lastSpent_of_short hspent]
  | cons i items ih =>
    obtain ⟨hi, hrest⟩ := List.nodup_cons.mp (List.map_cons ▸ hitems)
    have hother : ∀ j ∈ items, j.id ≠ i.id := fun j hj heq => hi (heq ▸ List.mem_map_of_mem hj)
    have hsub : ((c.queue.filter (fun e => !carriedBy q i e)).map Entry.id).Nodup := (List.filter_sublist.map _).nodup hids
    rw [List.foldl_cons, releaseItem_eq q i hids hspent, ih hrest hsub (length_lastSpent _)]
    dsimp only
    have hqueue : (c.queue.filter (fun e => !carriedBy q i e)).filter (fun e => ¬(e.id ∈ items.map ActionItem.id ∧ e.reportedIn = some q))
        = c.queue.filter (fun e => ¬(e.id ∈ (i :: items).map ActionItem.id ∧ e.reportedIn = some q)) := by
      rw [List.filter_filter]
      refine List.filter_congr fun e _ => ?_
      by_cases hrep : e.reportedIn = some q <;> by_cases hid : e.id = i.id <;> simp [carriedBy, hrep, hid]
    have horders : items.filterMap (releasedOrder q (c.queue.filter (fun e => !carriedBy q i e))) = items.filterMap (releasedOrder q c.queue) :=
      List.filterMap_congr fun j hj => releasedOrder_filter (hother j hj)
    have hspend : lastSpent (lastSpent (c.spent ++ (releasedOrder q c.queue i).toList) ++ items.filterMap (releasedOrder q c.queue))
        = lastSpent (c.spent ++ (i :: items).filterMap (releasedOrder q c.queue)) := by
      rw [lastSpent_lastSpent_append, List.append_assoc]
      cases hr : releasedOrder q c.queue i <;> simp [hr]
    rw [hqueue, horders, hspend]

/-- Settles O27: the window's split at the number, and the items of an ACTIONS notice released one after another. -/
theorem noticeAckRemovesUpToItsNumber : Obligations.NoticeAckRemovesUpToItsNumber := by
  refine ⟨fun tag q s h => ?answer, fun n c hinv => ⟨fun hother => ?other, fun items hitems hnodup os hos => ?items⟩⟩
  case answer =>
    have hexec : exec .noticeAck s = take .noticeAck (withLength [2] noticeAck) s := rfl
    have hlen : (u16 q.toNat).length ∈ [2] := List.mem_singleton_self 2
    rw [hexec]
    exact ⟨fun hnone => take_answerWith h rfl rfl hlen (noticeAck_of_not_held (s := dequeue s) hnone) rfl,
      fun before left n hw hn hfirst => take_answerWith h rfl rfl hlen (noticeAck_of_held (s := dequeue s) hw hn hfirst) rfl⟩
  case other =>
    unfold releaseNotice
    split
    · rename_i items hitems
      exact absurd hitems (hother items)
    · rfl
  case items =>
    obtain ⟨-, -, hids, -, hspent, -⟩ := hinv
    subst hos
    rw [releaseNotice, hitems]
    exact releaseItems_eq n.seq items hnodup hids hspent

/-! ## HALT_SET -/

theorem haltPolicyOf_eq_none {v : Nat} (h : 1 < v) : haltPolicyOf v = none := by
  unfold haltPolicyOf
  split <;> first | omega | rfl

theorem haltPolicyOf_code {v : Nat} {new : HaltPolicy} (h : v = codeHaltPolicy new) : haltPolicyOf v = some new := by
  subst h
  cases new <;> rfl

theorem haltSet_of_out_of_range {v : Byte} (s : State) (h : 1 < v.toNat) : haltSet [v] s = no .badValue s := by
  rw [haltSet, byteAt_cons_zero, haltPolicyOf_eq_none h]

theorem haltSet_of_policy {v : Byte} {new : HaltPolicy} (s : State) (h : v.toNat = codeHaltPolicy new) : haltSet [v] s =
    ok (u8 (codeHaltPolicy (haltPolicy new s).halt.policy) ++ u8 (codeLevel (haltPolicy new s).halt.level) ++ u8 (codeCoreState (haltPolicy new s).core.state))
      (haltPolicy new s) := by
  rw [haltSet, byteAt_cons_zero, haltPolicyOf_code h]

/-- The settings of R159's table that change the policy alone. -/
theorem haltPolicy_alone {new : HaltPolicy} {s : State} (h : new = s.halt.policy ∨ (new = .freeze ∧ (s.halt.level = .high ∨ s.core.state = .idle))
    ∨ (new = .ignore ∧ s.core.state ≠ .halted)) : haltPolicy new s = { s with halt := { s.halt with policy := new } } := by
  unfold haltPolicy
  dsimp only
  split
  · rfl
  · rename_i hchange
    obtain heq | ⟨rfl, hline⟩ | ⟨rfl, hrunning⟩ := h
    · exact absurd heq.symm hchange
    · dsimp only
      split
      · rename_i hlow
        obtain hhigh | hidle := hline
        · rw [hlow] at hhigh
          cases hhigh
        · exact assertHalt_of_idle_or_halted (.inl hidle)
      · rfl
    · exact releaseHalt_otherwise (.inl hrunning)

theorem haltPolicy_freezes {s : State} (hpolicy : s.halt.policy = .ignore) (hlevel : s.halt.level = .low) :
    haltPolicy .freeze s = assertHalt { s with halt := { s.halt with policy := .freeze } } := by
  unfold haltPolicy
  dsimp only
  rw [hpolicy, if_neg (by decide)]
  exact if_pos hlevel

theorem haltPolicy_releases {s : State} (hpolicy : s.halt.policy = .freeze) :
    haltPolicy .ignore s = releaseHalt { s with halt := { s.halt with policy := .ignore } } := by
  unfold haltPolicy
  dsimp only
  rw [hpolicy, if_neg (by decide)]

/-- A halt does not depend on the channel, nor write it. -/
theorem assertHalt_setChannel (c : Channel) (s : State) : assertHalt { s with channel := c } = { assertHalt s with channel := c } := by
  by_cases h : s.core.state = .idle ∨ s.core.state = .halted
  · rw [assertHalt_of_idle_or_halted h, assertHalt_of_idle_or_halted (s := { s with channel := c }) h]
  · obtain ⟨hidle, hhalted⟩ := not_or.mp h
    rw [assertHalt_of_running hidle hhalted, assertHalt_of_running (s := { s with channel := c }) hidle hhalted]
    rfl

theorem releaseHalt_setChannel (c : Channel) (s : State) : releaseHalt { s with channel := c } = { releaseHalt s with channel := c } := by
  by_cases hhalted : s.core.state = .halted
  · cases hactive : activePlan s with
    | none => rw [releaseHalt_otherwise (.inr hactive), releaseHalt_otherwise (s := { s with channel := c }) (.inr hactive)]
    | some p =>
      rw [releaseHalt_of_halted hhalted hactive, releaseHalt_of_halted (s := { s with channel := c }) hhalted hactive]
      rfl
  · rw [releaseHalt_otherwise (.inl hhalted), releaseHalt_otherwise (s := { s with channel := c }) (.inl hhalted)]

theorem haltPolicy_setChannel (new : HaltPolicy) (c : Channel) (s : State) :
    haltPolicy new { s with channel := c } = { haltPolicy new s with channel := c } := by
  unfold haltPolicy
  dsimp only
  split
  · rfl
  · split
    · split
      · exact assertHalt_setChannel c { s with halt := { s.halt with policy := .freeze } }
      · rfl
    · exact releaseHalt_setChannel c { s with halt := { s.halt with policy := .ignore } }

theorem assertHalt_halt (s : State) : (assertHalt s).halt = s.halt := by
  obtain ⟨-, -, hhalt, -⟩ := sameEnvironment_assertHalt s
  exact hhalt

theorem releaseHalt_halt (s : State) : (releaseHalt s).halt = s.halt := by
  obtain ⟨-, -, hhalt, -⟩ := sameEnvironment_releaseHalt s
  exact hhalt

/-- A policy byte in range is taken and answered with what is then in force. -/
theorem exec_haltSet_of_policy {tag v : Byte} {new : HaltPolicy} {s t : State} (h : TakesRequest tag 0x13 [v] s) (hv : v.toNat = codeHaltPolicy new)
    (ht : haltPolicy new s = t) : exec .haltSet s =
      .next (answerWith tag 0x13 .ok (u8 (codeHaltPolicy t.halt.policy) ++ u8 (codeLevel t.halt.level) ++ u8 (codeCoreState t.core.state)) t) := by
  have hchannel : s.channel = t.channel := by
    rw [← ht]
    exact (haltPolicy_channel_capture new s).1.symm
  have hset := haltSet_of_policy (dequeue s) hv
  have hdequeue : haltPolicy new (dequeue s) = { t with channel := (dequeue s).channel } :=
    (haltPolicy_setChannel new (dequeue s).channel s).trans (by rw [ht])
  rw [hdequeue] at hset
  refine (take_answerWith h rfl rfl (List.mem_singleton_self 1) hset rfl).trans ?_
  rw [hchannel]

/-- Settles O28: R159's table, an outcome of the policy's change at a time. -/
theorem haltSetActsByThePolicyTable : Obligations.HaltSetActsByThePolicyTable := by
  refine fun tag v s h => ⟨fun hlarge => ?outOfRange, fun new hv => ⟨fun halone => ?alone, fun hpolicy hfreeze hlevel hidle hhalted => ?freezes,
    fun hpolicy hignore _ t ht => ?releases⟩⟩
  case outOfRange =>
    exact take_answerWith (c := .haltSet) h rfl rfl (List.mem_singleton_self 1) (haltSet_of_out_of_range (dequeue s) hlarge) rfl
  case alone =>
    rw [exec_haltSet_of_policy h hv (haltPolicy_alone halone)]
    dsimp only
    rw [u8_of_toNat_eq hv]
    rfl
  case freezes =>
    subst hfreeze
    rw [exec_haltSet_of_policy h hv (haltPolicy_freezes hpolicy hlevel), assertHalt_halt,
      assertHalt_of_running (s := { s with halt := { s.halt with policy := .freeze } }) hidle hhalted, hlevel]
    rfl
  case releases =>
    subst hignore ht
    rw [exec_haltSet_of_policy h hv (haltPolicy_releases hpolicy), releaseHalt_halt]
    rfl

end Sys2Proof.Machine
end

section
/-! SUPPORT. ACTION_ADD (R93, R94, R154): what its payload carries, and each outcome of its five checks. -/

namespace Sys2Proof.Machine

/-! ## The action of a payload (Table 12-7) -/

theorem numAt_drop (b : List Byte) (n i k : Nat) : numAt (b.drop n) i k = numAt b (n + i) k := by
  rw [numAt, numAt, List.drop_drop]

theorem timeAt_drop (b : List Byte) (n i : Nat) : timeAt (b.drop n) i = timeAt b (n + i) := by
  rw [timeAt, timeAt, numAt_drop]

theorem actionOf_eq_none_iff {kind : Nat} {p : List Byte} : actionOf kind p = none ↔
    kind = 0 ∨ 3 < kind ∨ (kind = 2 ∧ 3 < byteAt p 0) ∨ (kind = 3 ∧ (3 < byteAt p 0 ∨ numAt p 1 2 = 0)) := by
  match kind with
  | 0 => simp [actionOf]
  | 1 => simp [actionOf]
  | 2 => simp [actionOf, planOf_eq_none_iff]
  | 3 =>
    unfold actionOf
    cases ho : planOf (byteAt p 0) with
    | none => simp [planOf_eq_none_iff.mp ho]
    | some o =>
      have hlow : ¬3 < byteAt p 0 := fun hlarge => by rw [planOf_eq_none_iff.mpr hlarge] at ho; cases ho
      simp [hlow]
  | n + 4 => simp [actionOf]

theorem action_of_actionOf {kind : Nat} {p : List Byte} {a : Action} (h : actionOf kind p = some a) :
    (kind = 1 ∧ a = .load (timeAt p 0)) ∨ (kind = 2 ∧ ∃ n : PlanNo, byteAt p 0 = n.val ∧ a = .switch n)
      ∨ (kind = 3 ∧ ∃ out : OutputNo, byteAt p 0 = out.val ∧ a = .pulse out (numAt p 1 2) (numAt p 3 2)) := by
  unfold actionOf at h
  split at h
  · exact .inl ⟨rfl, (Option.some.inj h).symm⟩
  · obtain ⟨n, hn, rfl⟩ := Option.map_eq_some_iff.mp h
    exact .inr (.inl ⟨rfl, n, planOf_eq_some_iff.mp hn, rfl⟩)
  · split at h
    · cases h
    · rename_i out hout
      split at h
      · cases h
      · exact .inr (.inr ⟨rfl, out, planOf_eq_some_iff.mp hout, (Option.some.inj h).symm⟩)
  · cases h

section
variable {b : List Byte}

/-- With an order id the propagate flag has to be set and the id has to be one (R93, R154 e). -/
theorem addedAction_of_order (h : b.length = 20) : addedAction b =
    if byteAt b 1 = 1 ∧ numAt b 18 2 ≠ 0 then (actionOf (byteAt b 0) (b.drop 10)).map (fun a => (a, some (BitVec.ofNat 16 (numAt b 18 2)))) else none := by
  unfold addedAction addedOrder
  rw [if_pos h]
  cases hflag : flagOf (byteAt b 1) with
  | none =>
    have hlarge := flagOf_eq_none_iff.mp hflag
    rw [if_neg (by omega)]
  | some flag =>
    rw [flagOf_eq_some_iff.mp hflag]
    cases flag with
    | false => rfl
    | true => cases actionOf (byteAt b 0) (b.drop 10) <;> simp [codeFlag]

/-- Without an order id the propagate flag has to be clear. -/
theorem addedAction_of_local (h : b.length = 18) :
    addedAction b = if byteAt b 1 = 0 then (actionOf (byteAt b 0) (b.drop 10)).map (fun a => (a, none)) else none := by
  unfold addedAction addedOrder
  rw [if_neg (by omega)]
  cases hflag : flagOf (byteAt b 1) with
  | none =>
    have hlarge := flagOf_eq_none_iff.mp hflag
    rw [if_neg (by omega)]
  | some flag =>
    rw [flagOf_eq_some_iff.mp hflag]
    cases flag with
    | true => rfl
    | false => cases actionOf (byteAt b 0) (b.drop 10) <;> simp [codeFlag]

theorem addedAction_eq_none_iff (h : b.length = 18 ∨ b.length = 20) : addedAction b = none ↔
    1 < byteAt b 1 ∨ (b.length = 20 ∧ (byteAt b 1 = 0 ∨ numAt b 18 2 = 0)) ∨ (b.length = 18 ∧ byteAt b 1 = 1)
      ∨ byteAt b 0 = 0 ∨ 3 < byteAt b 0 ∨ (byteAt b 0 = 2 ∧ 3 < byteAt b 10)
      ∨ (byteAt b 0 = 3 ∧ (3 < byteAt b 10 ∨ numAt b 11 2 = 0)) := by
  have haction := actionOf_eq_none_iff (kind := byteAt b 0) (p := b.drop 10)
  simp only [byteAt_drop, numAt_drop, Nat.reduceAdd] at haction
  obtain h | h := h
  · rw [addedAction_of_local h]
    split
    · rw [Option.map_eq_none_iff, haction]
      omega
    · simp only [true_iff]
      omega
  · rw [addedAction_of_order h]
    split
    · rw [Option.map_eq_none_iff, haction]
      omega
    · simp only [true_iff]
      omega

theorem carried_of_addedAction {a : Action} {o : Option OrderId} (h : b.length = 18 ∨ b.length = 20) (hadded : addedAction b = some (a, o)) :
    actionOf (byteAt b 0) (b.drop 10) = some a
      ∧ o = (if b.length = 20 then some (BitVec.ofNat 16 (byteAt b 18 + 256 * byteAt b 19)) else none) := by
  obtain h | h := h
  · rw [addedAction_of_local h] at hadded
    split at hadded
    · obtain ⟨x, hx, heq⟩ := Option.map_eq_some_iff.mp hadded
      cases heq
      exact ⟨hx, (if_neg (by omega)).symm⟩
    · cases hadded
  · rw [addedAction_of_order h] at hadded
    split at hadded
    · obtain ⟨x, hx, heq⟩ := Option.map_eq_some_iff.mp hadded
      cases heq
      exact ⟨hx, by rw [if_pos h, numAt_two]⟩
    · cases hadded

end

/-! ## The checks in their order -/

section
variable {b : List Byte} {a : Action} {o : Option OrderId} {s : State}

theorem actionAdd_of_no_time (h : s.core.valid = false) : actionAdd b s = no .wrongState s := if_pos (by simp [h])

theorem actionAdd_of_late (hvalid : s.core.valid = true) (h : duePassed (timeAt b 2) s = true) : actionAdd b s = no .tooLate s := by
  rw [actionAdd, if_neg (not_not.mpr hvalid), if_pos h]

/-- Past the first two checks an ACTION_ADD is judged by its action, its order id and the room in the queue. -/
theorem actionAdd_of_bad_fields (hvalid : s.core.valid = true) (hdue : ¬duePassed (timeAt b 2) s = true) (h : addedAction b = none) :
    actionAdd b s = no .badValue s := by
  rw [actionAdd, if_neg (not_not.mpr hvalid), if_neg hdue, h]

theorem actionAdd_of_fields (hvalid : s.core.valid = true) (hdue : ¬duePassed (timeAt b 2) s = true) (h : addedAction b = some (a, o)) :
    actionAdd b s = if (o.map (fun o => orderKnown o s.sched)).getD false then no .duplicate s
      else if queueFull s.sched then no .queueFull s
      else ok (u8 (insertAction a (timeAt b 2) .channel o (if o.isSome then 3 else 0) s.sched).1)
        { s with sched := (insertAction a (timeAt b 2) .channel o (if o.isSome then 3 else 0) s.sched).2 } := by
  rw [actionAdd, if_neg (not_not.mpr hvalid), if_neg hdue, h]

end

theorem orderId_known_iff {o : Option OrderId} {c : Schedule} :
    (o.map (fun i => orderKnown i c)).getD false = true ↔ ∃ i, o = some i ∧ ((∃ e ∈ c.queue, e.orderId = some i) ∨ i ∈ c.spent) := by
  cases o with
  | none => simp
  | some i => simp [orderKnown_iff]

/-- Settles O32: what the third check reads, what it carries on, and the outcomes in order. -/
theorem actionAddInsertsOneEntry : Obligations.ActionAddInsertsOneEntry := by
  refine ⟨fun b hb => addedAction_eq_none_iff hb, fun b a o hb hadded => ?carried, fun tag b s hb h hinv => ?checks⟩
  case carried =>
    obtain ⟨haction, ho⟩ := carried_of_addedAction hb hadded
    refine ⟨?_, ho⟩
    have hkinds := action_of_actionOf haction
    rw [byteAt_drop, timeAt_drop, numAt_drop, numAt_drop, numAt_two, numAt_two] at hkinds
    exact hkinds
  case checks =>
    have hexec : exec .actionAdd s = take .actionAdd (withLength [18, 20] actionAdd) s := rfl
    have hlen : b.length ∈ [18, 20] := by simpa using hb
    rw [hexec]
    refine ⟨fun hno => ?noTime, fun hvalid hlate => ?late, fun hvalid hdue => ?_⟩
    case noTime => exact take_answerWith h rfl rfl hlen (actionAdd_of_no_time (s := dequeue s) hno) rfl
    case late => exact take_answerWith h rfl rfl hlen (actionAdd_of_late (s := dequeue s) hvalid (duePassed_iff.mpr hlate)) rfl
    have hdue : ¬duePassed (timeAt b 2) (dequeue s) = true := fun hp => Nat.not_le.mpr hdue (duePassed_iff.mp hp)
    refine ⟨fun hbad => ?badFields, fun a o hadded => ?fields⟩
    case badFields => exact take_answerWith h rfl rfl hlen (actionAdd_of_bad_fields (s := dequeue s) hvalid hdue hbad) rfl
    case fields =>
      have hfields := actionAdd_of_fields (s := dequeue s) hvalid hdue hadded
      rw [dequeue_sched] at hfields
      refine ⟨fun i hi hknown => ?duplicate, fun hnew => ?_⟩
      case duplicate =>
        rw [if_pos (orderId_known_iff.mpr ⟨i, hi, hknown⟩)] at hfields
        exact take_answerWith h rfl rfl hlen hfields rfl
      have hfresh : ¬(o.map (fun i => orderKnown i s.sched)).getD false = true := fun hknown => by
        obtain ⟨i, hi, ⟨e, he, hid⟩ | hspent⟩ := orderId_known_iff.mp hknown
        · exact (hnew i hi).1 e he hid
        · exact (hnew i hi).2 hspent
      rw [if_neg hfresh] at hfields
      refine ⟨fun hfull => ?full, fun hroom => ?inserted⟩
      case full =>
        rw [if_pos (queueFull_iff.mpr (Nat.le_of_eq hfull.symm))] at hfields
        exact take_answerWith h rfl rfl hlen hfields rfl
      case inserted =>
        rw [if_neg (fun hfull => Nat.not_le.mpr hroom (queueFull_iff.mp hfull))] at hfields
        exact ⟨_, _, inserted_insertAction hinv hroom a (timeAt b 2) .channel o (if o.isSome then 3 else 0), take_answerWith h rfl rfl hlen hfields rfl⟩

end Sys2Proof.Machine
end

section
/-! SUPPORT. The lines: event edges (R113 to R118), the halt line (R20, R123), the ends of a width and of the holdover budget (R9, R122), and the pairs outside RECEIVE (R23, R26). -/

namespace Sys2Proof.Machine

/-! ## The core as an edge finds it -/

theorem coreAtPlace_eq (s : State) : coreAtPlace s = if s.caughtUp = some s.toBlocks then coreBefore (Config.edgePlace s.kept) s else s.core := by
  split
  · rename_i h
    exact coreAtPlace_of_amid h
  · rename_i h
    exact coreAtPlace_of_not_amid h

theorem endEdge_eq (b s : State) : endEdge b s = if b.caughtUp = some b.toBlocks then { s with caughtUp := some s.toBlocks } else s := by
  split
  · rename_i h
    exact endEdge_of_amid s h
  · rename_i h
    exact endEdge_of_not_amid s h

theorem accepts_iff {choice : EdgeChoice} {edge : Edge} :
    accepts choice edge = true ↔ choice = .both ∨ (choice = .rising ∧ edge = .rising) ∨ (choice = .falling ∧ edge = .falling) := by
  cases choice <;> simp [accepts]

/-- The state with a line judged at a level (R113). -/
def judgedAt (line : EventLine) (level : Level) (s : State) : State :=
  { s with capture := { s.capture with levels := s.capture.levels.set line level } }

section
variable {line : EventLine} {edge : Edge} {s : State}

theorem exec_eventEdge_of_same_level (h : s.capture.levels.get line = edgeLevel edge) : exec (.eventEdge line edge) s = .next s := if_pos h

theorem exec_eventEdge_of_dropped (h : s.capture.levels.get line ≠ edgeLevel edge) (hno : ¬accepts (s.capture.edges.get line) edge = true) :
    exec (.eventEdge line edge) s = .next (endEdge s (judgedAt line (edgeLevel edge) s)) := by
  change execEventEdge line edge s = _
  rw [execEventEdge, if_neg h]
  dsimp only
  rw [if_neg hno]
  rfl

theorem exec_eventEdge_of_accepted (h : s.capture.levels.get line ≠ edgeLevel edge) (hyes : accepts (s.capture.edges.get line) edge = true) :
    exec (.eventEdge line edge) s = .next (endEdge s (transmit (acceptEdge line edge (coreAtEdge s) (judgedAt line (edgeLevel edge) s)))) := by
  change execEventEdge line edge s = _
  rw [execEventEdge, if_neg h]
  dsimp only
  rw [if_pos hyes]
  rfl

end

theorem captureWaits_iff {u : NoticeUnit} : captureWaits u = true ↔ ∃ n ∈ u.unsent, noticeKey n = .capture := by
  simp [captureWaits]

theorem acceptEdge_of_full {line : EventLine} {edge : Edge} {c : Core} {s : State} (h : 64 ≤ s.capture.fifo.length) :
    acceptEdge line edge c s =
      { s with edgeAt := some (c.time, c.ticks), capture := { s.capture with gap := min (s.capture.gap + 1) 65535 } } := by
  unfold acceptEdge
  exact if_neg (Nat.not_lt.mpr h)

theorem acceptEdge_of_room {line : EventLine} {edge : Edge} {c : Core} {s : State} (h : s.capture.fifo.length < 64) :
    acceptEdge line edge c s = { s with
      edgeAt := some (c.time, c.ticks)
      capture := { s.capture with fifo := s.capture.fifo ++ [captureOf line edge s.capture.gap c], gap := 0 }
      notices := if s.capture.fifo = [] ∨ ∃ n ∈ s.notices.unsent, noticeKey n = .capture
        then raised (.capture (s.capture.fifo.length + 1)) s.notices else s.notices } := by
  have hlen : (s.capture.fifo ++ [captureOf line edge s.capture.gap c]).length = s.capture.fifo.length + 1 := List.length_append
  unfold acceptEdge
  dsimp only [noteEdge]
  rw [if_pos (show s.capture.fifo.length < Config.captureRecords from h), hlen]
  by_cases hwaits : s.capture.fifo = [] ∨ ∃ n ∈ s.notices.unsent, noticeKey n = .capture
  · rw [if_pos (hwaits.imp_right captureWaits_iff.mpr), if_pos hwaits]
    rfl
  · rw [if_neg (fun h => hwaits (h.imp_right captureWaits_iff.mp)), if_neg hwaits]

/-- What keeps the core, the cores kept between caught-up steps and the amid note of `s` is found alike by the next edge. -/
theorem coreAtPlace_endEdge {s u : State} (hnote : s.caughtUp = some s.toBlocks ∨ s.caughtUp = none) (hcore : u.core = s.core)
    (hpassing : u.passing = s.passing) (hkept : u.kept = s.kept) (hcaught : u.caughtUp = s.caughtUp) : coreAtPlace (endEdge s u) = coreAtPlace s := by
  have hbefore : ∀ n, coreBefore n u = coreBefore n s := fun n => by rw [coreBefore, coreBefore, hpassing, hcore]
  obtain hamid | hnone := hnote
  · rw [endEdge_of_amid u hamid, coreAtPlace_of_amid hamid, coreAtPlace_of_amid (s := { u with caughtUp := some u.toBlocks }) rfl, ← hbefore]
    dsimp only
    rw [hkept]
    rfl
  · have hs : s.caughtUp ≠ some s.toBlocks := by rw [hnone]; nofun
    have hu : u.caughtUp ≠ some u.toBlocks := by rw [hcaught, hnone]; nofun
    rw [endEdge_of_not_amid u hs, coreAtPlace_of_not_amid hu, coreAtPlace_of_not_amid hs, hcore]

theorem coreAtEdge_time_ticks (s : State) : { coreAtPlace s with time := (coreAtEdge s).time, ticks := (coreAtEdge s).ticks } = coreAtEdge s := by
  cases h : s.edgeAt with
  | none => rw [coreAtEdge_of_first h]
  | some x => rw [coreAtEdge_of_later (v := x.1) (n := x.2) h]

/-- An edge leaves the core as the next edge at this tick finds it. -/
theorem coreAtEdge_kept {line : EventLine} {edge : Edge} {s t : State} (hnote : s.caughtUp = some s.toBlocks ∨ s.caughtUp = none)
    (ht : exec (.eventEdge line edge) s = .next t) : coreAtEdge t = coreAtEdge s := by
  by_cases hlevel : s.capture.levels.get line = edgeLevel edge
  · rw [exec_eventEdge_of_same_level hlevel] at ht
    rw [← Host.Outcome.next.inj ht]
  · by_cases hyes : accepts (s.capture.edges.get line) edge = true
    · rw [exec_eventEdge_of_accepted hlevel hyes] at ht
      obtain rfl := Host.Outcome.next.inj ht
      obtain ⟨x, n, heq⟩ := acceptEdge_eq line edge (coreAtEdge s) (judgedAt line (edgeLevel edge) s)
      rw [heq]
      have hplace := coreAtPlace_endEdge (u := transmit { judgedAt line (edgeLevel edge) s with
        capture := x, notices := n, edgeAt := some ((coreAtEdge s).time, (coreAtEdge s).ticks) }) hnote
        (transmit_core _) (transmit_passing _) (transmit_kept _) (transmit_caughtUp _)
      rw [coreAtEdge_of_later ((endEdge_edgeAt s _).trans (transmit_edgeAt _)), hplace, coreAtEdge_time_ticks]
    · rw [exec_eventEdge_of_dropped hlevel hyes] at ht
      obtain rfl := Host.Outcome.next.inj ht
      have hplace := coreAtPlace_endEdge (u := judgedAt line (edgeLevel edge) s) hnote rfl rfl rfl rfl
      unfold coreAtEdge
      rw [hplace, endEdge_edgeAt]
      rfl

/-! ## What forgets the edges of a tick -/

theorem edgeAt_request {s t : State} (h : RequestEffect s t) : t.edgeAt = s.edgeAt := by
  cases h with
  | timeStart i p v =>
    obtain ⟨-, -, -, -, -, hedge⟩ := sameEnvironment_startTime i p v s
    exact hedge
  | timeStop =>
    obtain ⟨-, -, -, -, -, hedge⟩ := sameEnvironment_stopTime s
    exact hedge
  | haltSet new =>
    obtain heq | heq | heq := haltPolicy_cases new s <;> rw [heq]
    · obtain ⟨-, -, -, -, -, hedge⟩ := sameEnvironment_assertHalt { s with halt := { s.halt with policy := new } }
      exact hedge
    · obtain ⟨-, -, -, -, -, hedge⟩ := sameEnvironment_releaseHalt { s with halt := { s.halt with policy := new } }
      exact hedge
  | _ => rfl

theorem edgeAt_take {c : Instr} {body : Request → State → Answer × State} {s t : State} (h : ∀ r s, RequestEffect s (body r s).2)
    (ht : take c body s = .next t) : t.edgeAt = s.edgeAt := by
  obtain rfl := Host.Outcome.next.inj ht
  unfold handle
  split
  · rfl
  · rename_i r _
    split
    · have heffect : (body r (dequeue s)).2.edgeAt = s.edgeAt := edgeAt_request (s := dequeue s) (h r (dequeue s))
      exact (transmit_edgeAt _).trans heffect
    · rfl

theorem edgeAt_withLength {c : Instr} {lengths : List Nat} {body : List Byte → State → Answer × State} {s t : State} (h : ∀ b s, RequestEffect s (body b s).2)
    (ht : take c (withLength lengths body) s = .next t) : t.edgeAt = s.edgeAt := edgeAt_take (requestEffect_withLength h) ht

theorem edgeAt_guarded {c : Prop} [Decidable c] {u s t : State} (h : u.edgeAt = s.edgeAt)
    (ht : (if c then Host.Outcome.next u else .next s : Host.Outcome State Fault Refusal) = .next t) : t.edgeAt = s.edgeAt := by
  split at ht
  · rw [← Host.Outcome.next.inj ht, h]
  · rw [← Host.Outcome.next.inj ht]

theorem SameEnvironment.edgeAt {s t : State} (h : SameEnvironment s t) : t.edgeAt = s.edgeAt := by
  obtain ⟨-, -, -, -, -, hedge⟩ := h
  exact hedge

theorem takeBytes_edgeAt (bs : List Byte) (s : State) : (takeBytes bs s).edgeAt = s.edgeAt := by
  obtain ⟨c, n, heq⟩ := takeBytes_eq bs s
  rw [heq]

/-- An event of the timing that may catch up leaves the note of the edges. -/
theorem SameEnvironment.edgeAt_caughtUp {s t b : State} (h : SameEnvironment s t) : (endCatchUp b (transmit t)).edgeAt = s.edgeAt := by
  rw [endCatchUp_edgeAt, transmit_edgeAt, h.edgeAt]

theorem edgeAt_restartTakesEffect {s t : State} (h : ¬RestartLeaves s) (ht : execRestartTakesEffect s = .next t) : t.edgeAt = s.edgeAt := by
  rw [execRestartTakesEffect, if_neg (fun hdue => h (restartDue_iff.mp hdue))] at ht
  rw [← Host.Outcome.next.inj ht]

theorem edgeAt_transmitDone {s t : State} (h : ¬RestartLeaves s) (ht : execTransmitDone s = .next t) : t.edgeAt = s.edgeAt := by
  unfold execTransmitDone at ht
  rw [Bool.eq_false_of_not_eq_true fun hdue => h (restartDue_iff.mp hdue)] at ht
  split at ht
  · rw [← Host.Outcome.next.inj ht]
  · split at ht
    · rw [← Host.Outcome.next.inj ht]
    · rw [← Host.Outcome.next.inj ht]
      exact transmit_edgeAt _

theorem edgeAt_linkMark {l : LinkNo} {k : MarkKind} {b : Option Byte} {s t : State} (ht : execLinkMark l k b s = .next t) : t.edgeAt = s.edgeAt := by
  unfold execLinkMark at ht
  split at ht
  · exact edgeAt_guarded (sameEnvironment_receiveMark _ l k b s).edgeAt_caughtUp ht
  · rw [← Host.Outcome.next.inj ht]

theorem edgeAt_holdoverExpired {s t : State} (ht : execHoldoverExpired s = .next t) : t.edgeAt = s.edgeAt := by
  unfold execHoldoverExpired at ht
  split at ht
  · rw [← Host.Outcome.next.inj ht]
    split
    · exact (transmit_edgeAt _).trans (sameEnvironment_expireHoldover _ s).edgeAt
    · rfl
  · rw [← Host.Outcome.next.inj ht]

theorem edgeAt_haltnAssert {s t : State} (ht : execHaltnAssert s = .next t) : t.edgeAt = s.edgeAt := by
  unfold execHaltnAssert at ht
  split at ht
  · rw [← Host.Outcome.next.inj ht]
  · rw [← Host.Outcome.next.inj ht]
    split
    · exact (transmit_edgeAt _).trans (sameEnvironment_assertHalt { s with halt := { s.halt with level := .low } }).edgeAt
    · rfl

theorem edgeAt_haltnRelease {s t : State} (ht : execHaltnRelease s = .next t) : t.edgeAt = s.edgeAt := by
  unfold execHaltnRelease at ht
  split at ht
  · rw [← Host.Outcome.next.inj ht]
  · rw [← Host.Outcome.next.inj ht]
    split
    · exact (transmit_edgeAt _).trans (sameEnvironment_releaseHalt { s with halt := { s.halt with level := .high } }).edgeAt
    · rfl

/-- A later edge of the tick carries what the first one did (R116). -/
theorem edgeAt_eventEdge {line : EventLine} {edge : Edge} {carried : Time × Nat} {s t : State} (h : s.edgeAt = some carried)
    (ht : exec (.eventEdge line edge) s = .next t) : t.edgeAt = s.edgeAt := by
  by_cases hlevel : s.capture.levels.get line = edgeLevel edge
  · rw [exec_eventEdge_of_same_level hlevel] at ht
    rw [← Host.Outcome.next.inj ht]
  · by_cases hyes : accepts (s.capture.edges.get line) edge = true
    · rw [exec_eventEdge_of_accepted hlevel hyes] at ht
      obtain ⟨htime, hticks⟩ := coreAtEdge_carries (v := carried.1) (n := carried.2) h
      rw [← Host.Outcome.next.inj ht, endEdge_edgeAt, transmit_edgeAt, acceptEdge_edgeAt, htime, hticks, h]
    · rw [exec_eventEdge_of_dropped hlevel hyes] at ht
      rw [← Host.Outcome.next.inj ht, endEdge_edgeAt]
      rfl

/-- No command but the two resets forgets what the edges of this tick carry. -/
theorem edgeAt_of_exec {c : Instr} {carried : Time × Nat} {s t : State} (h : s.edgeAt = some carried)
    (hreset : ∀ baud1 baud0 haltn ev, c ≠ .powerOnReset baud1 baud0 haltn ev) (hrestart : ¬RestartLeaves s) (ht : exec c s = .next t) :
    t.edgeAt = s.edgeAt := by
  cases c with
  | powerOnReset baud1 baud0 haltn ev => exact absurd rfl (hreset baud1 baud0 haltn ev)
  | channelByte b =>
    rw [← Host.Outcome.next.inj ht]
    exact (transmit_edgeAt _).trans (takeBytes_edgeAt _ s)
  | frameTimerExpiry => exact edgeAt_guarded ((transmit_edgeAt _).trans (takeBytes_edgeAt _ (raiseFault .channelFraming s))) ht
  | undefinedRequest => exact edgeAt_take (fun _ _ => .none) ht
  | ping => exact edgeAt_withLength (fun _ _ => .none) ht
  | restart => exact edgeAt_take (fun r => requestEffect_withLength (fun _ _ => .holdRestart r) r) ht
  | restartTakesEffect => exact edgeAt_restartTakesEffect hrestart ht
  | planWrite => exact edgeAt_withLength requestEffect_planWrite ht
  | planRead => exact edgeAt_withLength requestEffect_planRead ht
  | planClear => exact edgeAt_withLength requestEffect_planClear ht
  | fallbackSet => exact edgeAt_withLength requestEffect_fallbackSet ht
  | fallbackRead => exact edgeAt_withLength (fun _ _ => .none) ht
  | linkSet => exact edgeAt_withLength requestEffect_linkSet ht
  | linkRead => exact edgeAt_withLength requestEffect_linkRead ht
  | timeStart => exact edgeAt_withLength requestEffect_timeStart ht
  | timeStop => exact edgeAt_withLength requestEffect_timeStop ht
  | timeRead => exact edgeAt_withLength (fun _ _ => .none) ht
  | actionAdd => exact edgeAt_withLength requestEffect_actionAdd ht
  | actionCancel => exact edgeAt_withLength requestEffect_actionCancel ht
  | actionList => exact edgeAt_withLength requestEffect_actionList ht
  | lineSet => exact edgeAt_withLength requestEffect_lineSet ht
  | captureRead => exact edgeAt_withLength (fun _ _ => .captureRead) ht
  | haltSet => exact edgeAt_withLength requestEffect_haltSet ht
  | noticeAck => exact edgeAt_withLength requestEffect_noticeAck ht
  | noticeSet => exact edgeAt_withLength requestEffect_noticeSet ht
  | transmitDone => exact edgeAt_transmitDone hrestart ht
  | ackTimerExpiry => exact edgeAt_guarded (transmit_edgeAt { s with notices := expireAck s.notices }) ht
  | linkMark l k b => exact edgeAt_linkMark ht
  | pulseWidthEnd o => rw [← Host.Outcome.next.inj ht]
  | holdoverExpired => exact edgeAt_holdoverExpired ht
  | generatorStep => exact edgeAt_guarded (sameEnvironment_runGenerator false s).edgeAt_caughtUp ht
  | lossTimerExpiry l => exact edgeAt_guarded ((sameEnvironment_expireLoss l s).trans (sameEnvironment_catchUp false s _)).edgeAt_caughtUp ht
  | holdoffTimerExpiry l => exact edgeAt_guarded ((sameEnvironment_changeQual l _ _ s).trans (sameEnvironment_catchUp false s _)).edgeAt_caughtUp ht
  | haltnAssert => exact edgeAt_haltnAssert ht
  | haltnRelease => exact edgeAt_haltnRelease ht
  | eventEdge line edge => exact edgeAt_eventEdge h ht
  | caughtUpMarkLeaves l => exact edgeAt_guarded (setLink_edgeAt l _ s) ht

/-- Settles O37: the core at the edge's place, the judgement, the record or the gap; then what the next edge of the tick finds. -/
theorem eventEdgeIsStoredOrCounted : Obligations.EventEdgeIsStoredOrCounted := by
  refine ⟨fun line edge level a c ended s hlevel ha hc hended => ?edge, fun line edge s t => coreAtEdge_kept,
    fun c carried s t h hreset hrestart ht => (edgeAt_of_exec h hreset hrestart ht).trans h⟩
  case edge =>
    obtain rfl : level = edgeLevel edge := by
      rw [hlevel]
      cases edge <;> rfl
    obtain rfl : a = coreAtPlace s := by
      refine ha.trans ?_
      rw [coreAtPlace_eq]
      unfold coreBefore
      cases s.passing.drop (s.passing.length - Config.edgePlace s.kept) <;> rfl
    obtain rfl : c = coreAtEdge s := hc
    obtain rfl : ended = endEdge s := funext fun v => by rw [hended, endEdge_eq]
    refine ⟨exec_eventEdge_of_same_level, fun hchange => ⟨fun hno => ?dropped, fun hyes => ⟨fun hfull => ?full, fun hroom => ?stored⟩⟩⟩
    case dropped => exact exec_eventEdge_of_dropped hchange (fun h => hno (accepts_iff.mp h))
    case full =>
      rw [exec_eventEdge_of_accepted hchange (accepts_iff.mpr hyes), acceptEdge_of_full (s := judgedAt line (edgeLevel edge) s) hfull]
      rfl
    case stored =>
      rw [exec_eventEdge_of_accepted hchange (accepts_iff.mpr hyes), acceptEdge_of_room (s := judgedAt line (edgeLevel edge) s) hroom]
      rfl

/-! ## The halt line, the ends, the pairs -/

/-- Settles O38: the level, then the policy, then the state. -/
theorem haltAssertionFreezesTheCore : Obligations.HaltAssertionFreezesTheCore := by
  intro s
  have hact (hhigh : s.halt.level = .high) (hfreeze : s.halt.policy = .freeze) :
      exec .haltnAssert s = .next (transmit (assertHalt { s with halt := { s.halt with level := .low } })) := by
    change execHaltnAssert s = _
    rw [execHaltnAssert, if_neg (by rw [hhigh]; decide)]
    exact congrArg Host.Outcome.next (if_pos hfreeze)
  refine ⟨fun hlow => if_pos hlow, fun hhigh hignore => ?ignored, fun hhigh hfreeze hidle => ?idle, fun hhigh hfreeze hidle hhalted => ?freezes⟩
  case ignored =>
    change execHaltnAssert s = _
    rw [execHaltnAssert, if_neg (by rw [hhigh]; decide)]
    exact congrArg Host.Outcome.next (if_neg (by rw [hignore]; decide))
  case idle => rw [hact hhigh hfreeze, assertHalt_of_idle_or_halted (s := { s with halt := { s.halt with level := .low } }) (.inl hidle)]
  case freezes =>
    rw [hact hhigh hfreeze, assertHalt_of_running (s := { s with halt := { s.halt with level := .low } }) hidle hhalted]
    rfl

theorem endWidth_eq (q : Pulse) : endWidth q = { q with active := q.active && decide (q.width ≠ 0) } := by
  unfold endWidth
  obtain ⟨polarity, active, width⟩ := q
  by_cases hwidth : width = 0 <;> cases active <;> simp [hwidth]

theorem stepPulse_of_inactive {q : Pulse} (h : q.active = false) : stepPulse q = q := if_neg (by rw [h]; decide)

theorem stepPulse_of_active {q : Pulse} (h : q.active = true) : stepPulse q = { q with active := decide (1 < q.width), width := q.width - 1 } := by
  rw [stepPulse, if_pos h, endWidth_eq]
  dsimp only
  rw [h, Bool.true_and]
  congr 1
  exact decide_eq_decide.mpr (by omega)

theorem enterGenerating_free_of_running {p : Plan} {c : Core} (h : c.gen.running = true) : enterGenerating p .free c = { c with state := .free, grade := 4 } :=
  if_pos h

theorem limitReached_iff {p : Plan} {c : Core} :
    limitReached p c = true ↔ c.state = .holdover ∧ c.syncWork.isSome ∧ p.limit ≠ 0 ∧ p.limit ≤ c.holdoverCount := by
  simp [limitReached, and_assoc]

/-- The holdover budget spent by a core whose generator runs (R9). -/
theorem expireHoldover_of_limit {p : Plan} {s : State} (h : limitReached p s.core = true) (hrunning : s.core.gen.running = true) :
    expireHoldover p s = { s with
      core := { s.core with state := .free, grade := 4 }
      notices := raised (.time .free .holdover s.sel.source 4 s.core.hops none s.core.syncIndex 1)
        (raised (.fault [(.holdoverExpired, 1)]) s.notices) } := by
  obtain ⟨hholdover, -⟩ := limitReached_iff.mp h
  rw [expireHoldover, if_pos h, enterGenerating_free_of_running hrunning, hholdover]
  rfl

/-- Settles O40: the two commands, and one counted step of an output. -/
theorem widthEndAndHoldoverExpiry : Obligations.WidthEndAndHoldoverExpiry := by
  refine ⟨fun o s => ?width, fun p s hplan hholdover hwork hrunning hlimit hcount => ?expired, fun q => ⟨stepPulse_of_inactive, fun hactive hwide => ?step, fun hactive hlast => ?last⟩⟩
  case width =>
    rw [← endWidth_eq]
    rfl
  case expired =>
    have hreached := limitReached_iff.mpr ⟨hholdover, hwork, hlimit, hcount⟩
    change execHoldoverExpired s = _
    rw [execHoldoverExpired, hplan]
    dsimp only
    rw [if_pos hreached, expireHoldover_of_limit hreached hrunning]
  case step =>
    rw [stepPulse_of_active hactive, decide_eq_true hwide, ← hactive]
  case last =>
    rw [stepPulse_of_active hactive, decide_eq_false (Nat.not_lt.mpr hlast), Nat.sub_eq_zero_of_le hlast]

theorem exec_linkMark_of_not_receive {l : LinkNo} (k : MarkKind) (b : Option Byte) {s : State} (h : (link l s).dir ≠ .receive) :
    exec (.linkMark l k b) s = .next s := by
  change execLinkMark l k b s = _
  unfold execLinkMark
  split
  · exact if_neg h
  · rfl

/-- Settles O41: outside RECEIVE a mark is not decoded, and a pair takes one mark after another. -/
theorem pairsOutsideReceive : Obligations.PairsOutsideReceive := by
  refine ⟨fun l k b s h => exec_linkMark_of_not_receive k b h, fun l m ms s hvalid hcounts hfree hwaiting => ?leaves,
    fun m p => ⟨fun hfree hnone => ?taken, fun hbusy => ?waits⟩⟩
  case leaves =>
    have hcounting : counting s.core.state = true := by
      obtain h | h | h | h := hcounts <;> rw [h] <;> rfl
    have hleaves : markMayLeave l s = true := markMayLeave_iff.mpr ⟨by rw [mayEmit, hcounting, hvalid]; rfl, hfree, by rw [hwaiting]; nofun⟩
    have hnext : pairNext (link l s).pair = { mark := some m, busy := 4, waiting := ms } := by rw [pairNext, hwaiting]; rfl
    change execCaughtUpMarkLeaves l s = _
    rw [execCaughtUpMarkLeaves, if_pos hleaves, hnext]
    rfl
  case taken =>
    rw [pairSend, if_pos ⟨hfree, hnone⟩, hnone]
    rfl
  case waits => exact if_neg fun ⟨hfree, hnone⟩ => hbusy.elim (· hfree) (· hnone)

end Sys2Proof.Machine
end

section
/-! SUPPORT. The frame receiver (R129 to R133): what taking bytes comes to, byte by byte, and the frame that a request arrives in (Table 12-2). -/

namespace Sys2Proof.Machine

/-! ## The hunt without its fuel -/

theorem hunt_nil (fuel : Nat) (s : State) : hunt fuel [] s = { s with channel := { s.channel with held := [] } } := by
  cases fuel <;> rfl

/-- More fuel than bytes is enough. -/
theorem hunt_fuel {f g : Nat} {bs : List Byte} (hf : bs.length < f) (hg : bs.length < g) (s : State) : hunt f bs s = hunt g bs s := by
  induction f generalizing g bs s with
  | zero => exact absurd hf (Nat.not_lt_zero _)
  | succ f ih =>
    obtain ⟨g, rfl⟩ : ∃ n, g = n + 1 := ⟨g - 1, by omega⟩
    match bs with
    | [] => rw [hunt_nil, hunt_nil]
    | b :: bs =>
      by_cases hb : b = 0x5B
      · subst hb
        match bs with
        | [] => rw [hunt_lone_start, hunt_lone_start]
        | len :: rest =>
          simp only [List.length_cons] at hf hg
          have hnext (t : State) : hunt f (len :: rest) t = hunt g (len :: rest) t :=
            ih (by simp only [List.length_cons]; omega) (by simp only [List.length_cons]; omega) t
          have hrest (t : State) : hunt f ((0x5B :: len :: rest).drop (len.toNat + 4)) t = hunt g ((0x5B :: len :: rest).drop (len.toNat + 4)) t :=
            ih (by simp only [List.length_drop, List.length_cons]; omega) (by simp only [List.length_drop, List.length_cons]; omega) t
          simp only [hunt_start, hnext, hrest]
      · simp only [List.length_cons] at hf hg
        rw [hunt_of_not_start _ _ _ hb, hunt_of_not_start _ _ _ hb]
        exact ih (by omega) (by omega) s

theorem takeBytes_of_fuel {f : Nat} {bs : List Byte} (h : bs.length < f) (s : State) : setFrameTimer (hunt f bs s) = takeBytes bs s :=
  congrArg setFrameTimer (hunt_fuel h (Nat.lt_succ_self _) s)

/-! ## Taking bytes -/

theorem takeBytes_nil (s : State) : takeBytes [] s = { s with channel := { s.channel with held := [], frameTimer := none } } := rfl

theorem takeBytes_of_not_start {b : Byte} (h : b ≠ 0x5B) (rest : List Byte) (s : State) : takeBytes (b :: rest) s = takeBytes rest s := by
  rw [takeBytes, List.length_cons, hunt_of_not_start _ _ _ h, takeBytes_of_fuel (Nat.lt_succ_self _)]

section
variable {len : Byte} {rest : List Byte}

theorem takeBytes_of_bad_len (h : len.toNat < 2 ∨ 242 < len.toNat) (s : State) :
    takeBytes (0x5B :: len :: rest) s = takeBytes (len :: rest) (raiseFault .channelFraming s) := by
  rw [takeBytes, List.length_cons, hunt_start, if_pos h, takeBytes_of_fuel (Nat.lt_succ_self _)]

/-- A frame that the bytes only begin is held, and its timer runs afresh (R129, R130). -/
theorem takeBytes_of_begun (hlow : 2 ≤ len.toNat) (hhigh : len.toNat ≤ 242) (h : rest.length < len.toNat + 2) (s : State) :
    takeBytes (0x5B :: len :: rest) s = { s with channel := { s.channel with held := 0x5B :: len :: rest, frameTimer := some 2500000 } } := by
  rw [takeBytes, List.length_cons, hunt_start, if_neg (by omega), if_pos (by omega)]
  rfl

/-- A whole frame is judged by its CRC-16: it is handed on, or the hunt goes on at the byte after its START (R132). -/
theorem takeBytes_of_whole {body : List Byte} (hlow : 2 ≤ len.toNat) (hhigh : len.toNat ≤ 242) (h : body.length = len.toNat + 2) (s : State) :
    takeBytes (0x5B :: len :: (body ++ rest)) s =
      if frameCrcOk (0x5B :: len :: body) then takeBytes rest (arrive (requestOf (0x5B :: len :: body)) s)
      else takeBytes (len :: (body ++ rest)) (raiseFault .channelCrc s) := by
  have htake : (0x5B :: len :: (body ++ rest)).take (len.toNat + 4) = 0x5B :: len :: body := by
    simp only [List.take_succ_cons, ← h, List.take_left]
  have hdrop : (0x5B :: len :: (body ++ rest)).drop (len.toNat + 4) = rest := by
    simp only [List.drop_succ_cons, ← h, List.drop_left]
  rw [takeBytes, List.length_cons, hunt_start, if_neg (by omega), if_neg (by rw [List.length_append]; omega), htake, hdrop]
  split
  · exact takeBytes_of_fuel (by simp only [List.length_cons, List.length_append]; omega) _
  · exact takeBytes_of_fuel (Nat.lt_succ_self _) _

/-- The CRC-16 of a whole frame stands behind its body, low byte first (R132). -/
theorem frameCrcOk_iff {body : List Byte} (h : body.length = len.toNat + 2) : frameCrcOk (0x5B :: len :: body) = true ↔
    (crc16 (len :: body.take len.toNat)).toNat = (body.getD len.toNat 0).toNat + 256 * (body.getD (len.toNat + 1) 0).toNat := by
  have hbody : (len :: body).dropLast.dropLast = len :: body.take len.toNat := by
    rw [List.dropLast_eq_take, List.dropLast_eq_take, List.take_take, List.length_take, List.length_cons, h]
    have hn : min (min (len.toNat + 2 + 1 - 1) (len.toNat + 2 + 1) - 1) (len.toNat + 2 + 1 - 1) = len.toNat + 1 := by omega
    rw [hn, List.take_succ_cons]
  have hcrc : numAt (0x5B :: len :: body) ((0x5B :: len :: body).length - 2) 2
      = (body.getD len.toNat 0).toNat + 256 * (body.getD (len.toNat + 1) 0).toNat := by
    rw [List.length_cons, List.length_cons, h, numAt_two]
    rfl
  rw [frameCrcOk, List.drop_succ_cons, List.drop_zero, hbody, hcrc, beq_iff_eq]

end

/-! ## A whole request frame (Table 12-2) -/

section
variable {tag kind : Byte} {payload : List Byte}

/-- What follows START and LEN in a frame. -/
def frameBody (tag kind : Byte) (payload : List Byte) : List Byte :=
  tag :: kind :: payload ++ u16 (crc16 (BitVec.ofNat 8 (payload.length + 2) :: tag :: kind :: payload)).toNat

theorem frame_eq (tag kind : Byte) (payload : List Byte) :
    frame tag kind payload = 0x5B :: BitVec.ofNat 8 (payload.length + 2) :: frameBody tag kind payload := rfl

theorem length_frameBody (tag kind : Byte) (payload : List Byte) : (frameBody tag kind payload).length = payload.length + 4 := by
  rw [frameBody, List.length_append]
  rfl

theorem toNat_len (h : payload.length ≤ 240) : (BitVec.ofNat 8 (payload.length + 2)).toNat = payload.length + 2 := toNat_byte (by omega)

theorem frameCrcOk_frame (h : payload.length ≤ 240) : frameCrcOk (0x5B :: BitVec.ofNat 8 (payload.length + 2) :: frameBody tag kind payload) = true := by
  have hlen := toNat_len h
  rw [frameCrcOk_iff (by rw [length_frameBody, hlen]), hlen]
  have htake : (frameBody tag kind payload).take (payload.length + 2) = tag :: kind :: payload :=
    List.take_left (l₁ := tag :: kind :: payload)
  generalize hcrc : crc16 (BitVec.ofNat 8 (payload.length + 2) :: tag :: kind :: payload) = crc
  have hbody : frameBody tag kind payload = (tag :: kind :: payload) ++ u16 crc.toNat := by rw [frameBody, hcrc]
  have hget (i : Nat) : (frameBody tag kind payload).getD (payload.length + 2 + i) 0 = (u16 crc.toNat).getD i 0 := by
    rw [hbody, List.getD_append_right _ _ _ _ (by simp only [List.length_cons]; omega)]
    congr 1
    simp only [List.length_cons]
    omega
  have hsmall : crc.toNat < 65536 := crc.isLt
  rw [htake, hcrc, ← Nat.add_zero (payload.length + 2), hget 0, Nat.add_zero, hget 1]
  exact (toNat_two_bytes hsmall).symm

theorem requestOf_frame (h : payload.length ≤ 240) :
    requestOf (0x5B :: BitVec.ofNat 8 (payload.length + 2) :: frameBody tag kind payload) = { tag := tag, kind := kind, payload := payload } := by
  have hlen : byteAt (0x5B :: BitVec.ofNat 8 (payload.length + 2) :: frameBody tag kind payload) 1 - 2 = payload.length := by
    rw [show byteAt (0x5B :: BitVec.ofNat 8 (payload.length + 2) :: frameBody tag kind payload) 1 = payload.length + 2 from toNat_len h]
    rfl
  rw [requestOf, hlen]
  exact congrArg (Request.mk tag kind) List.take_left

/-- A whole request frame is taken out of the bytes and handed on. -/
theorem takeBytes_frame (h : payload.length ≤ 240) (rest : List Byte) (s : State) :
    takeBytes (frame tag kind payload ++ rest) s = takeBytes rest (arrive { tag := tag, kind := kind, payload := payload } s) := by
  have hlen := toNat_len h
  rw [frame_eq, List.cons_append, List.cons_append, takeBytes_of_whole (by omega) (by omega) (by rw [length_frameBody, hlen]), if_pos (frameCrcOk_frame h),
    requestOf_frame h]

end

/-- The part with a valid request frame reported to its notice unit (R169). -/
def reported (s : State) : State := { s with notices := reportValid s.notices }

section
variable {r : Request} {s : State}

theorem overrun_iff {c : Channel} : overrun c = true ↔ 6 ≤ c.responses.length ∨ (c.handling.isSome ∧ 4 ≤ c.requests.length) := by
  rw [overrun, Bool.or_eq_true, Bool.and_eq_true, decide_eq_true_iff, decide_eq_true_iff]
  exact Iff.rfl

theorem arrive_of_overrun (h : 6 ≤ s.channel.responses.length ∨ (s.channel.handling.isSome ∧ 4 ≤ s.channel.requests.length)) :
    arrive r s = raiseFault .channelOverrun (reported s) := if_pos (overrun_iff.mpr h)

theorem arrive_of_slot (h : ¬(6 ≤ s.channel.responses.length ∨ (s.channel.handling.isSome ∧ 4 ≤ s.channel.requests.length))) :
    arrive r s = { reported s with channel := claimSlot r s.channel } := if_neg fun ho => h (overrun_iff.mp ho)

theorem arrive_queued (hslot : s.channel.responses.length < 6) (hroom : s.channel.requests.length < 4) : arrive r s =
    { reported s with channel := { s.channel with requests := s.channel.requests ++ [r], responses := s.channel.responses ++ [.reserved] } } := by
  rw [arrive_of_slot (by omega), claimSlot, if_pos (show s.channel.requests.length < Config.requestSlots from hroom)]

theorem arrive_busy (hslot : s.channel.responses.length < 6) (hfree : s.channel.handling = none) (hfull : 4 ≤ s.channel.requests.length) : arrive r s =
    { reported s with channel := { s.channel with
      responses := s.channel.responses ++ [.filled { tag := r.tag, kind := responseKind r.kind, status := .busy, fields := [] }] } } := by
  rw [arrive_of_slot (by simp [hfree, hslot]), claimSlot, if_neg (show ¬s.channel.requests.length < Config.requestSlots from Nat.not_lt.mpr hfull)]

end

theorem exec_channelByte (b : Byte) (s : State) : exec (.channelByte b) s = .next (transmit (takeBytes (s.channel.held ++ [b]) s)) := rfl

/-- Settles O9: the receiver's rules, for a byte that arrives and for bytes examined again. -/
theorem huntStartsFramesAndExaminesFailedOnes : Obligations.HuntStartsFramesAndExaminesFailedOnes := by
  refine ⟨fun s hhunt => ⟨fun b hb => ?dropped, ?start⟩, ⟨fun s b len rest hheld hlow hhigh hlen hcrc => ?failed, fun s hexpired => if_pos hexpired⟩,
    fun b rest s hb => takeBytes_of_not_start hb rest s, takeBytes_nil, fun len body rest s hlow hhigh hlen hcrc => ?crc,
    fun tag kind payload rest s u hpayload hu => ?frame⟩
  case dropped =>
    rw [exec_channelByte, hhunt, List.nil_append, takeBytes_of_not_start hb]
    rfl
  case start =>
    rw [exec_channelByte, hhunt, List.nil_append]
    rfl
  case failed =>
    rw [exec_channelByte, hheld]
    have htake := takeBytes_of_whole (rest := []) hlow hhigh hlen s
    rw [if_neg fun hok => hcrc ((frameCrcOk_iff hlen).mp hok), List.append_nil] at htake
    rw [htake]
  case crc => rw [takeBytes_of_whole hlow hhigh hlen, if_neg fun hok => hcrc ((frameCrcOk_iff hlen).mp hok)]
  case frame =>
    obtain rfl : u = reported s := hu
    rw [takeBytes_frame hpayload]
    exact ⟨fun hover => by rw [arrive_of_overrun hover], fun hslot hroom => by rw [arrive_queued hslot hroom]; rfl,
      fun hslot hfree hfull => by rw [arrive_busy hslot hfree hfull]; rfl⟩

/-- Settles O10: the LEN's range, and the bytes that a frame still lacks. -/
theorem lenOutOfRangeIsFraming : Obligations.LenOutOfRangeIsFraming := by
  have hnot {len : Byte} (h : len.toNat < 2 ∨ 242 < len.toNat) : len ≠ 0x5B := by
    rintro rfl
    exact absurd h (by decide)
  refine ⟨fun s len hheld => ⟨fun hbad => ?bad, fun hlow hhigh => ?good⟩, fun s b len rest hheld hlow hhigh hshort => ?collects,
    fun s len rest => ⟨fun hbad => takeBytes_of_bad_len hbad s, fun hlow hhigh hshort => takeBytes_of_begun hlow hhigh hshort s⟩⟩
  case bad =>
    rw [exec_channelByte, hheld, List.cons_append, List.nil_append, takeBytes_of_bad_len hbad, takeBytes_of_not_start (hnot hbad)]
    rfl
  case good => rw [exec_channelByte, hheld, List.cons_append, List.nil_append, takeBytes_of_begun hlow hhigh (by simp)]
  case collects =>
    have hbegun : (rest ++ [b]).length < len.toNat + 2 := by
      rw [List.length_append]
      exact hshort
    rw [exec_channelByte, hheld]
    exact congrArg (fun t => Host.Outcome.next (transmit t)) (takeBytes_of_begun hlow hhigh hbegun s)

/-- Settles O11: the last byte of a frame is the frame examined with nothing behind it. -/
theorem wholeFrameIsTakenAsARequest : Obligations.WholeFrameIsTakenAsARequest := by
  intro tag kind b payload s u hpayload hheld hu
  have htake := takeBytes_frame (tag := tag) (kind := kind) hpayload [] s
  rw [List.append_nil, takeBytes_nil] at htake
  rw [exec_channelByte, hheld, htake]
  subst hu
  refine ⟨fun hover => ?_, fun hslot hroom => ?_, fun hslot hfree hfull => ?_⟩
  · rw [arrive_of_overrun hover]
    rfl
  · rw [arrive_queued hslot hroom]
    rfl
  · rw [arrive_busy hslot hfree hfull]
    rfl

end Sys2Proof.Machine
end

section
/-! SUPPORT. Link messages (Table 12-12): a message read back from its bytes, the messages that are discarded, and the set the senders compose (R27, R31, R97, R180). -/

namespace Sys2Proof.Machine

/-! ## Messages read back -/

/-- A whole message with its CRC-8 behind it: the CRC-8 is checked before any field (R31). -/
theorem messageOf_concat (m : List Byte) (b : Byte) : messageOf (m ++ [b]) =
    if crc8 m ≠ b then none
    else if (m ++ [b]).getD 0 0 = 0xA1 then (planOf (byteAt (m ++ [b]) 9)).map (fun p => .announce ⟨timeAt (m ++ [b]) 1, p⟩)
    else if (m ++ [b]).getD 0 0 = 0xA2 then (qualityOf (m ++ [b])).map .quality
    else (orderOf (m ++ [b])).map .order := by
  have hlast : (m ++ [b]).getD ((m ++ [b]).length - 1) 0 = b := by simp
  rw [messageOf, List.dropLast_concat, hlast]

section
variable {m : List Byte} {b : Byte}

theorem messageOf_of_bad_crc (h : crc8 m ≠ b) : messageOf (m ++ [b]) = none := by
  rw [messageOf_concat, if_pos h]

theorem messageOf_announce (h : crc8 m = b) (htype : (m ++ [b]).getD 0 0 = 0xA1) :
    messageOf (m ++ [b]) = (planOf (byteAt (m ++ [b]) 9)).map (fun p => .announce ⟨timeAt (m ++ [b]) 1, p⟩) := by
  rw [messageOf_concat, if_neg (not_not.mpr h), if_pos htype]

theorem messageOf_quality (h : crc8 m = b) (htype : (m ++ [b]).getD 0 0 = 0xA2) : messageOf (m ++ [b]) = (qualityOf (m ++ [b])).map .quality := by
  rw [messageOf_concat, if_neg (not_not.mpr h), htype, if_neg (by decide), if_pos rfl]

theorem messageOf_order (h : crc8 m = b) (htype : (m ++ [b]).getD 0 0 = 0xB1 ∨ (m ++ [b]).getD 0 0 = 0xB2 ∨ (m ++ [b]).getD 0 0 = 0xB3) :
    messageOf (m ++ [b]) = (orderOf (m ++ [b])).map .order := by
  rw [messageOf_concat, if_neg (not_not.mpr h)]
  obtain h | h | h := htype <;> rw [h, if_neg (by decide), if_neg (by decide)]

end

theorem messageOf_messageBytes_announce (a : Announce) : messageOf (messageBytes (.announce a)) = some (.announce a) := by
  have hn := a.plan.isLt
  have hplan : byteAt (messageBytes (.announce a)) 9 = a.plan.val := toNat_byte (by omega)
  have htime : timeAt (messageBytes (.announce a)) 1 = a.time := timeAt_of_u64 rfl
  refine (messageOf_announce (m := messageBody (.announce a)) rfl rfl).trans ?_
  change (planOf (byteAt (messageBytes (.announce a)) 9)).map (fun p => LinkMessage.announce ⟨timeAt (messageBytes (.announce a)) 1, p⟩) = _
  rw [planOf_eq_some_iff.mpr hplan, htime]
  rfl

theorem sendingStateOf_code {st : CoreState} (h : st = .locked ∨ st = .holdover ∨ st = .free ∨ st = .master) :
    sendingStateOf (codeCoreState st) = some st := by
  obtain rfl | rfl | rfl | rfl := h <;> rfl

theorem qualityOf_messageBytes {q : Quality} (hgrade : q.grade ≤ 4) (hhops : q.hops ≤ 15)
    (hcore : q.core = .locked ∨ q.core = .holdover ∨ q.core = .free ∨ q.core = .master) : qualityOf (messageBytes (.quality q)) = some q := by
  have hg : byteAt (messageBytes (.quality q)) 1 = q.grade := toNat_byte (by omega)
  have hh : byteAt (messageBytes (.quality q)) 2 = q.hops := toNat_byte (by omega)
  have ht : byteAt (messageBytes (.quality q)) 3 = codeFlag q.takeover := toNat_byte (codeFlag_lt _)
  have hc : byteAt (messageBytes (.quality q)) 4 = codeCoreState q.core := toNat_byte (codeCoreState_lt _)
  rw [qualityOf, hg, hh, ht, hc, flagOf_eq_some_iff.mpr rfl, sendingStateOf_code hcore]
  exact if_pos ⟨hgrade, hhops⟩

theorem messageOf_messageBytes_quality {q : Quality} (hgrade : q.grade ≤ 4) (hhops : q.hops ≤ 15)
    (hcore : q.core = .locked ∨ q.core = .holdover ∨ q.core = .free ∨ q.core = .master) :
    messageOf (messageBytes (.quality q)) = some (.quality q) := by
  refine (messageOf_quality (m := messageBody (.quality q)) rfl rfl).trans ?_
  exact congrArg (Option.map LinkMessage.quality) (qualityOf_messageBytes hgrade hhops hcore)

/-- An action whose fields fit the 8 parameter bytes (Table 12-7). -/
def ActionFits (a : Action) : Prop := ∀ out w q, a = .pulse out w q → 1 ≤ w ∧ w ≤ 65535 ∧ q ≤ 65535

/-- The parameters of an action are read back from the bytes that begin with them. -/
theorem actionOf_actionBytes {a : Action} (h : ActionFits a) (rest : List Byte) : actionOf (codeKind a) (actionBytes a ++ rest) = some a := by
  cases a with
  | load v => exact congrArg (fun t => some (Action.load t)) (timeAt_of_u64 rfl)
  | switch n =>
    have hn := n.isLt
    have hbyte : byteAt (actionBytes (.switch n) ++ rest) 0 = n.val := toNat_byte (by omega)
    have hplan := planOf_eq_some_iff.mpr hbyte
    exact congrArg (Option.map Action.switch) hplan
  | pulse out w q =>
    obtain ⟨hpos, hw, hq⟩ := h out w q rfl
    have ho := out.isLt
    have hbyte : byteAt (actionBytes (.pulse out w q) ++ rest) 0 = out.val := toNat_byte (by omega)
    have hwidth : numAt (actionBytes (.pulse out w q) ++ rest) 1 2 = w := numAt_of_u16 rfl hw
    have hperiod : numAt (actionBytes (.pulse out w q) ++ rest) 3 2 = q := numAt_of_u16 rfl hq
    rw [codeKind, actionOf, planOf_eq_some_iff.mpr hbyte, hwidth, hperiod]
    exact if_neg (by omega)

theorem toNat_orderType (a : Action) : (orderType a).toNat = 0xB0 + codeKind a := by
  cases a <;> rfl

theorem orderOf_of_action {m : List Byte} {a : Action} (h : actionOf (byteAt m 0 - 0xB0) (m.drop 11) = some a) (hid : numAt m 1 2 ≠ 0) :
    orderOf m = some ⟨BitVec.ofNat 16 (numAt m 1 2), timeAt m 3, a⟩ := by
  unfold orderOf
  split
  · rename_i b hb
    rw [Option.some.inj (h.symm.trans hb)]
    exact if_neg hid
  · rename_i hnone
    cases h.symm.trans hnone

theorem orderOf_messageBytes {o : Order} (hid : o.id ≠ 0) (h : ActionFits o.action) : orderOf (messageBytes (.order o)) = some o := by
  have hkind : byteAt (messageBytes (.order o)) 0 - 0xB0 = codeKind o.action := by
    have htype : byteAt (messageBytes (.order o)) 0 = (orderType o.action).toNat := rfl
    rw [htype, toNat_orderType]
    omega
  have hdrop : (messageBytes (.order o)).drop 11 = actionBytes o.action ++ [crc8 (messageBody (.order o))] := rfl
  have hsmall : o.id.toNat < 65536 := o.id.isLt
  have hnum : numAt (messageBytes (.order o)) 1 2 = o.id.toNat := numAt_of_u16 rfl (Nat.le_of_lt_succ hsmall)
  have hdue : timeAt (messageBytes (.order o)) 3 = o.due := timeAt_of_u64 rfl
  have hpos : o.id.toNat ≠ 0 := fun h0 => hid (BitVec.eq_of_toNat_eq h0)
  have haction := (congrArg₂ actionOf hkind hdrop).trans (actionOf_actionBytes h _)
  rw [orderOf_of_action haction (by rwa [hnum]), hnum, hdue, BitVec.ofNat_toNat, BitVec.setWidth_eq]

theorem messageOf_messageBytes_order {o : Order} (hid : o.id ≠ 0) (h : ActionFits o.action) :
    messageOf (messageBytes (.order o)) = some (.order o) := by
  have htype : (messageBody (.order o) ++ [crc8 (messageBody (.order o))]).getD 0 0 = orderType o.action := rfl
  refine (messageOf_order (m := messageBody (.order o)) rfl ?_).trans (congrArg (Option.map LinkMessage.order) (orderOf_messageBytes hid h))
  rw [htype]
  cases o.action with
  | load v => exact .inl rfl
  | switch n => exact .inr (.inl rfl)
  | pulse out w q => exact .inr (.inr rfl)

/-- Settles O60: one lemma for each kind of message. -/
theorem linkMessageIsReadBack : Obligations.LinkMessageIsReadBack :=
  ⟨messageOf_messageBytes_announce, fun _ => messageOf_messageBytes_quality, fun _ => messageOf_messageBytes_order⟩

/-! ## Messages that are discarded (R31) -/

section
variable {m : List Byte} {b : Byte}

theorem numAt_two_append_left {i : Nat} (h : i + 1 < m.length) : numAt (m ++ [b]) i 2 = numAt m i 2 := by
  rw [numAt_two, numAt_two, byteAt_append_left (by omega), byteAt_append_left h]

theorem getD_zero_of_byteAt {v : Byte} (hlen : 0 < m.length) (h : byteAt m 0 = v.toNat) : (m ++ [b]).getD 0 0 = v := by
  refine BitVec.eq_of_toNat_eq ?_
  rw [← h]
  exact byteAt_append_left (b := [b]) hlen

theorem flagOf_eq_none {v : Nat} (h : 1 < v) : flagOf v = none := flagOf_eq_none_iff.mpr h

theorem sendingStateOf_eq_none {v : Nat} (h : v < 2 ∨ 5 < v) : sendingStateOf v = none := by
  unfold sendingStateOf
  split <;> first | omega | rfl

theorem qualityOf_eq_none (h : 4 < byteAt m 1 ∨ 15 < byteAt m 2 ∨ 1 < byteAt m 3 ∨ byteAt m 4 < 2 ∨ 5 < byteAt m 4) : qualityOf m = none := by
  unfold qualityOf
  split
  · rename_i t c ht hc
    refine if_neg fun ⟨hgrade, hhops⟩ => ?_
    obtain h | h | h | h := h
    · omega
    · omega
    · rw [flagOf_eq_none h] at ht
      cases ht
    · rw [sendingStateOf_eq_none h] at hc
      cases hc
  · rfl

theorem orderOf_eq_none (h : numAt m 1 2 = 0 ∨ actionOf (byteAt m 0 - 0xB0) (m.drop 11) = none) : orderOf m = none := by
  unfold orderOf
  split
  · rename_i a ha
    exact if_pos (h.resolve_right (by rw [ha]; nofun))
  · rfl

/-- A whole message with a field out of range is none (section 2.6). -/
theorem messageOf_of_out_of_range {type : Byte} {bytes : List Byte} (hlen : messageLength type = some (bytes.length + 2))
    (h : MessageOutOfRange (type :: bytes)) : messageOf (type :: bytes ++ [b]) = none := by
  by_cases hcrc : crc8 (type :: bytes) = b
  swap
  · exact messageOf_of_bad_crc hcrc
  have hpos : 0 < (type :: bytes).length := Nat.succ_pos _
  have hlength (v : Byte) (k : Nat) (hv : byteAt (type :: bytes) 0 = v.toNat) (hk : messageLength v = some k) : (type :: bytes).length + 1 = k := by
    obtain rfl : type = v := BitVec.eq_of_toNat_eq hv
    rw [hk] at hlen
    rw [List.length_cons]
    exact (Option.some.inj hlen).symm
  obtain ⟨ht, h9⟩ | ⟨ht, hq⟩ | ⟨ht, h⟩ | ⟨ht, h⟩ | ⟨ht, h⟩ := h
  · have hl := hlength 0xA1 11 ht rfl
    rw [messageOf_announce hcrc (getD_zero_of_byteAt hpos ht), planOf_eq_none_iff.mpr (by rwa [byteAt_append_left (by omega)])]
    rfl
  · have hl := hlength 0xA2 6 ht rfl
    rw [messageOf_quality hcrc (getD_zero_of_byteAt hpos ht), qualityOf_eq_none (by
      rwa [byteAt_append_left (by omega), byteAt_append_left (by omega), byteAt_append_left (by omega), byteAt_append_left (by omega)])]
    rfl
  · have hl := hlength 0xB1 20 ht rfl
    rw [messageOf_order hcrc (.inl (getD_zero_of_byteAt hpos ht)), orderOf_eq_none (.inl (by rwa [numAt_two_append_left (by omega)]))]
    rfl
  · have hl := hlength 0xB2 20 ht rfl
    have haction : numAt (type :: bytes ++ [b]) 1 2 = 0 ∨ actionOf (byteAt (type :: bytes ++ [b]) 0 - 0xB0) ((type :: bytes ++ [b]).drop 11) = none := by
      rw [numAt_two_append_left (by omega), actionOf_eq_none_iff, byteAt_drop, Nat.add_zero, byteAt_append_left hpos,
        byteAt_append_left (i := 11) (by omega), ht]
      exact h.imp_right fun hplan => .inr (.inr (.inl ⟨rfl, hplan⟩))
    rw [messageOf_order hcrc (.inr (.inl (getD_zero_of_byteAt hpos ht))), orderOf_eq_none haction]
    rfl
  · have hl := hlength 0xB3 20 ht rfl
    have haction : numAt (type :: bytes ++ [b]) 1 2 = 0 ∨ actionOf (byteAt (type :: bytes ++ [b]) 0 - 0xB0) ((type :: bytes ++ [b]).drop 11) = none := by
      rw [numAt_two_append_left (by omega), actionOf_eq_none_iff, byteAt_drop, Nat.add_zero, numAt_drop, byteAt_append_left hpos,
        byteAt_append_left (i := 11) (by omega), numAt_two_append_left (i := 11 + 1) (by omega), ht]
      exact h.imp_right fun hpulse => .inr (.inr (.inr ⟨rfl, hpulse⟩))
    rw [messageOf_order hcrc (.inr (.inr (getD_zero_of_byteAt hpos ht))), orderOf_eq_none haction]
    rfl

end

/-! ## The composed set (R27, R97) -/

theorem compose_eq {i : PlanNo} {p : Plan} {s : State} (hactive : s.plans.active = some i) (hrecord : s.plans.records.get i = some p) :
    compose s = { s with outSet := some (composedSet p i s), sched := spendOffers s.sched } := by
  have hplan : activePlan s = some p := by rw [activePlan, hactive]; exact hrecord
  rw [compose, hactive, hplan]

/-- With every action id held once, the entries offered are named by their ids. -/
theorem spendOffers_eq {c : Schedule} (h : (c.queue.map Entry.id).Nodup) :
    spendOffers c = { c with queue := c.queue.map (fun e => if e ∈ offered c then { e with sends := e.sends - 1 } else e) } := by
  have hsub : ∀ e ∈ offered c, e ∈ c.queue := fun e he => List.mem_of_mem_filter (List.mem_of_mem_take he)
  have hmap : c.queue.map (fun e => if e.id ∈ (offered c).map Entry.id then { e with sends := e.sends - 1 } else e)
      = c.queue.map (fun e => if e ∈ offered c then { e with sends := e.sends - 1 } else e) := by
    refine List.map_congr_left fun e he => ?_
    have hiff : e.id ∈ (offered c).map Entry.id ↔ e ∈ offered c := by
      refine ⟨fun hid => ?_, List.mem_map_of_mem⟩
      obtain ⟨x, hx, hxid⟩ := List.mem_map.mp hid
      rwa [← List.inj_on_of_nodup_map h (hsub x hx) he hxid]
    by_cases hoffered : e ∈ offered c
    · rw [if_pos hoffered, if_pos (hiff.mpr hoffered)]
    · rw [if_neg hoffered, if_neg (fun hid => hoffered (hiff.mp hid))]
  exact congrArg (fun queue => { c with queue := queue }) hmap

theorem length_messageBytes_order (o : Order) : (messageBytes (.order o)).length = 20 := by
  cases h : o.action <;> (rw [messageBytes, messageBody, h]; rfl)

theorem length_orders (es : List Entry) : (es.flatMap (fun e => messageBytes (orderMessage e))).length = 20 * es.length := by
  have heach : ∀ e ∈ es, (messageBytes (orderMessage e)).length = 20 := fun e _ => length_messageBytes_order _
  rw [List.length_flatMap, List.map_congr_left heach, List.map_const', List.sum_replicate, smul_eq_mul, Nat.mul_comm]

/-- Settles O36: the composed set is the announce, the QUALITY and the offered ORDERs, of 11, 6 and 20 bytes. -/
theorem messageSetHoldsAnnounceQualityAndOrders : Obligations.MessageSetHoldsAnnounceQualityAndOrders := by
  intro i p s es hactive hrecord hids hes
  obtain rfl : es = offered s.sched := hes
  refine ⟨composedSet p i s, by rw [compose_eq hactive hrecord, spendOffers_eq hids], rfl, ?_⟩
  rw [composedSet, List.length_append, length_orders, List.length_append]
  rfl

end Sys2Proof.Machine
end

section
/-! SUPPORT. How the core moves at a change of selection, at a release of the halt line and at a change of plan (R12, R13, R21, R72): the no-source path said once, and its uses. -/

namespace Sys2Proof.Machine

/-! ## The no-source path (R12) -/

/-- What the no-source path makes of a core not in takeover, by the plan's role and the selection. -/
structure NoSourceLeaves (p : Plan) (source : Option LinkNo) (was : CoreState) (c d : Core) : Prop where
  master : p.role = .master → (d.state, d.takeover, d.grade, d.hops) = (.master, false, 0, 0)
  takeover : p.role = .backup → source = none → (d.state, d.takeover, d.grade, d.hops) = (.master, true, 2, 0) ∧ d.outRealign = some (carryingSync c)
  alone : p.role = .follower ∨ (p.role = .backup ∧ source.isSome) →
    (d.state, d.holdoverCount) = aloneState was c.learned.length c.holdoverCount ∧ d.takeover = false ∧ d.hops = c.hops
      ∧ d.grade = if d.state = .holdover then 3 else 4
  realign : ¬(p.role = .backup ∧ source = none) → d.outRealign = c.outRealign
  count : d.state ≠ .holdover → d.holdoverCount = c.holdoverCount
  gen : d.gen = enteredGenerator p d.state c
  generating : d.state = .holdover ∨ d.state = .free ∨ d.state = .master

theorem aloneState_count {was : CoreState} {n k : Nat} (h : (aloneState was n k).1 ≠ .holdover) : (aloneState was n k).2 = k := by
  unfold aloneState at h ⊢
  split
  · rfl
  · rename_i hfree
    rw [if_neg hfree] at h
    split
    · rfl
    · rename_i hholdover
      rw [if_neg hholdover] at h
      split
      · rename_i hfull
        rw [if_pos hfull] at h
        exact absurd rfl h
      · rfl

section
variable {p : Plan} {source : Option LinkNo} {was : CoreState} {c : Core}

theorem noSourcePath_of_master (h : p.role = .master) : noSourcePath p source was c =
    { c with state := .master, takeover := false, grade := 0, hops := 0, gen := enteredGenerator p .master c } := by
  unfold noSourcePath
  rw [h]
  exact enterGenerating_master p { c with takeover := false }

theorem noSourcePath_of_lost_backup (h : p.role = .backup) : noSourcePath p none was c = takeOver p c := by
  unfold noSourcePath
  rw [h]

theorem noSourcePath_alone (ht : c.takeover = false) (h : p.role = .follower ∨ (p.role = .backup ∧ source.isSome)) :
    noSourcePath p source was c = carryOn p was c := by
  unfold noSourcePath
  obtain h | ⟨h, hsome⟩ := h
  · rw [h]
  · obtain ⟨l, rfl⟩ := Option.isSome_iff_exists.mp hsome
    rw [h]
    exact if_neg (by rw [ht]; decide)

theorem noSourceLeaves (ht : c.takeover = false) : NoSourceLeaves p source was c (noSourcePath p source was c) := by
  have hrole : p.role = .master ∨ (p.role = .backup ∧ source = none) ∨ p.role = .follower ∨ (p.role = .backup ∧ source.isSome) := by
    cases p.role <;> cases source <;> simp
  obtain h | ⟨h, rfl⟩ | h := hrole
  · rw [noSourcePath_of_master h]
    exact { master := fun _ => rfl, takeover := by simp [h], alone := by simp [h], realign := fun _ => rfl, count := fun _ => rfl,
            gen := rfl, generating := .inr (.inr rfl) }
  · rw [noSourcePath_of_lost_backup h, takeOver_of_not p ht]
    exact { master := by simp [h], takeover := fun _ _ => ⟨rfl, rfl⟩, alone := by simp [h], realign := by simp [h], count := fun _ => rfl,
            gen := rfl, generating := .inr (.inr rfl) }
  · rw [noSourcePath_alone ht h, carryOn_eq]
    have hno : ¬(p.role = .backup ∧ source = none) := by
      rintro ⟨hb, rfl⟩
      simp [hb] at h
    refine { master := fun hm => by simp [hm] at h, takeover := fun hb hn => absurd ⟨hb, hn⟩ hno, alone := fun _ => ⟨rfl, ht, rfl, rfl⟩,
             realign := fun _ => rfl, count := aloneState_count, gen := rfl, generating := ?_ }
    exact (aloneState_state was c.learned.length c.holdoverCount).imp_right .inl

end

/-- A generator that starts, from a core whose generator stood. -/
theorem enteredGenerator_of_stopped {p : Plan} {st : CoreState} {c : Core} (h : c.gen.running = false) : enteredGenerator p st c =
    if (st = .holdover ∨ st = .free) ∧ c.learned.length = 8
      then { c.gen with running := true, cycle := 0, spacing := c.learned.headD 0, fromRecord := true }
      else { c.gen with running := true, cycle := 0, spacing := p.nominal, fromRecord := false } := if_neg (by rw [h]; decide)

theorem enteredGenerator_of_running {p : Plan} {st : CoreState} {c : Core} (h : c.gen.running = true) : enteredGenerator p st c = c.gen := if_pos h

/-! ## A change of selection (R72) -/

section
variable {p : Plan} {source : Option LinkNo} {c : Core}

theorem afterSelection_of_locked (h : c.state = .locked) : afterSelection p source c = noSourcePath p source .locked c := by
  rw [afterSelection, h]

theorem afterSelection_of_lost_backup (h : c.state = .locked ∨ c.state = .holdover ∨ c.state = .free) (hrole : p.role = .backup) :
    afterSelection p none c = takeOver p c := by
  unfold afterSelection
  obtain h | h | h := h <;> rw [h]
  · exact noSourcePath_of_lost_backup hrole
  · exact if_pos ⟨hrole, rfl⟩
  · exact if_pos ⟨hrole, rfl⟩

theorem afterSelection_kept (hlocked : c.state ≠ .locked) (h : ¬((c.state = .holdover ∨ c.state = .free) ∧ p.role = .backup ∧ source = none)) :
    afterSelection p source c = c := by
  unfold afterSelection
  cases hst : c.state with
  | locked => exact absurd hst hlocked
  | holdover => exact if_neg fun hlost => h ⟨.inl hst, hlost⟩
  | free => exact if_neg fun hlost => h ⟨.inr hst, hlost⟩
  | _ => rfl

end

/-- Settles O49: the outcome of the re-evaluation, then the core's answer by its state. -/
theorem selectionChangeMovesTheCore : Obligations.SelectionChangeMovesTheCore := by
  rintro p new s t hactive rfl rfl hrole
  refine ⟨reevaluate_same hactive, fun hchange => ?_⟩
  rw [reevaluate_changed hactive hchange]
  generalize choose p s = new
  have hcore : (select p new s).core = afterSelection p new s.core := rfl
  refine ⟨rfl, fun hlocked ht hkept => ?alone, fun hst ht hb hn => ?lost, fun hlocked hkept => afterSelection_kept hlocked hkept⟩
  case alone =>
    have hpath : p.role = .follower ∨ (p.role = .backup ∧ new.isSome) := by
      cases hr : p.role with
      | master => exact absurd hr hrole
      | backup => exact .inr ⟨rfl, Option.isSome_iff_ne_none.mpr fun hn => hkept ⟨hr, hn⟩⟩
      | follower => exact .inl rfl
    rw [hcore, afterSelection_of_locked hlocked, noSourcePath_alone ht hpath, carryOn_eq]
    refine ⟨fun hfull => ?_, fun hfew => ?_⟩
    · have halone : aloneState .locked s.core.learned.length s.core.holdoverCount = (.holdover, 0) := by simp [aloneState, hfull]
      rw [halone]
      simp [enteredGenerator, hfull]
    · have halone : aloneState .locked s.core.learned.length s.core.holdoverCount = (.free, s.core.holdoverCount) := by simp [aloneState, hfew]
      rw [halone]
      simp [enteredGenerator, hfew]
  case lost =>
    subst hn
    rw [hcore, afterSelection_of_lost_backup hst hb, takeOver_of_not p ht]
    simp [enteredGenerator]

/-! ## A release of the halt line (R21) -/

/-- The instant of a release counts as that of the last step. -/
def atRelease (c : Core) : Core := { c with gen := { c.gen with elapsed := 0 } }

section
variable {p : Plan} {sel : Selection} {quality : Option Quality} {c : Core}

theorem resumedState_of_joined (h : c.remembered = some .locked) (hsource : sel.source.isSome) (hjoined : sel.joined = true) :
    resumedState p sel quality c = lockedGrade quality { atRelease c with state := .locked } := by
  cases c
  cases h
  exact if_pos ⟨hsource, hjoined⟩

theorem resumedState_of_unjoined (h : c.remembered = some .locked) (hjoined : sel.joined = false) :
    resumedState p sel quality c = noSourcePath p sel.source .locked (atRelease c) := by
  cases c
  cases h
  exact if_neg (fun ⟨_, hj⟩ => absurd hj (by rw [hjoined]; decide))

theorem resumedState_of_acquiring (h : c.remembered = some .acquiring) :
    resumedState p sel quality c = { atRelease c with state := .acquiring, grade := 4, hops := 15 } := by
  cases c
  cases h
  rfl

theorem resumedState_of_master (h : c.remembered = some .master) (ht : c.takeover = false) :
    resumedState p sel quality c = enterGenerating p .master (atRelease c) := by
  cases c
  cases h
  cases ht
  rfl

theorem resumedState_of_takeover (h : c.remembered = some .master) (ht : c.takeover = true) :
    resumedState p sel quality c = noSourcePath p sel.source .master (atRelease c) := by
  cases c
  cases h
  cases ht
  rfl

theorem resumedState_of_alone {st : CoreState} (h : c.remembered = some st) (hst : st = .holdover ∨ st = .free) :
    resumedState p sel quality c = noSourcePath p sel.source st (atRelease c) := by
  cases c
  obtain rfl | rfl := hst <;> cases h <;> rfl

/-- A backup in takeover stays MASTER whatever is selected (R12, R21). -/
theorem noSourcePath_of_takeover (hrole : p.role = .backup) (ht : c.takeover = true) (source : Option LinkNo) (was : CoreState) :
    noSourcePath p source was c = { c with state := .master, grade := 2, hops := 0, gen := enteredGenerator p .master c } := by
  cases source with
  | none => rw [noSourcePath_of_lost_backup hrole, takeOver_of_already p ht]
  | some l =>
    unfold noSourcePath
    rw [hrole]
    dsimp only
    rw [if_pos ht, enterGenerating_master, ht]
    rfl

end

/-- What a release leaves of the core beside the flags that every release writes. -/
structure Resumes (p : Plan) (sel : Selection) (quality : Option Quality) (st : CoreState) (c d : Core) : Prop where
  acquiring : st = .acquiring → (d.state, d.takeover, d.grade, d.hops) = (.acquiring, false, 4, 15)
  locked : st = .locked → sel.joined = true →
    (d.state, d.takeover, d.grade, d.hops) = (.locked, false, max 1 (gradeAndHops quality).1, min 15 ((gradeAndHops quality).2 + 1))
  master : st = .master → c.takeover = false → (d.state, d.takeover, d.grade, d.hops) = (.master, false, 0, 0)
  takeover : st = .master → c.takeover = true → (d.state, d.takeover, d.grade, d.hops) = (.master, true, 2, 0)
  alone : st = .holdover ∨ st = .free ∨ (st = .locked ∧ sel.joined = false) → NoSourceLeaves p sel.source st (atRelease c) d
  count : d.state ≠ .holdover → d.holdoverCount = c.holdoverCount
  stopped : d.state = .locked ∨ d.state = .acquiring → d.gen = (atRelease c).gen
  started : d.state = .holdover ∨ d.state = .free ∨ d.state = .master → d.gen = enteredGenerator p d.state (atRelease c)
  acquiring_iff : d.state = .acquiring ↔ st = .acquiring

theorem gradeAndHops_eq (q : Option Quality) : gradeAndHops q = readQuality q := by
  cases q <;> rfl

section
variable {p : Plan} {sel : Selection} {c : Core} {st : CoreState}

theorem NoSourceLeaves.resumes {quality : Option Quality} {d : Core} (h : NoSourceLeaves p sel.source st (atRelease c) d)
    (hst : st = .holdover ∨ st = .free ∨ (st = .locked ∧ sel.joined = false)) : Resumes p sel quality st c d := by
  have hgen := h.generating
  have hacquiring : st ≠ .acquiring := by obtain rfl | rfl | ⟨rfl, -⟩ := hst <;> decide
  have hmaster : st ≠ .master := by obtain rfl | rfl | ⟨rfl, -⟩ := hst <;> decide
  have hstate : d.state ≠ .acquiring := by obtain hg | hg | hg := hgen <;> rw [hg] <;> decide
  have hlocked : d.state ≠ .locked := by obtain hg | hg | hg := hgen <;> rw [hg] <;> decide
  exact {
    acquiring := fun heq => absurd heq hacquiring
    locked := fun heq hj => by
      obtain rfl | rfl | ⟨-, hno⟩ := hst
      · cases heq
      · cases heq
      · rw [hno] at hj
        cases hj
    master := fun heq => absurd heq hmaster
    takeover := fun heq => absurd heq hmaster
    alone := fun _ => h
    count := h.count
    stopped := fun hstopped => (hstopped.elim hlocked hstate).elim
    started := fun _ => h.gen
    acquiring_iff := ⟨fun heq => absurd heq hstate, fun heq => absurd heq hacquiring⟩ }

/-- The state that a release resumes, with the plan's invariants before it. -/
theorem resumes_resumedState (quality : Option Quality) (hst : c.remembered = some st) (hidle : st ≠ .idle) (hhalted : st ≠ .halted)
    (htakeover : c.takeover = true → st = .master ∧ p.role = .backup) (hjoined : sel.joined = true → sel.source.isSome) :
    Resumes p sel quality st c (resumedState p sel quality c) := by
  have hno (h : st ≠ .master) : c.takeover = false := Bool.eq_false_of_not_eq_true fun ht => h (htakeover ht).1
  have hnoSource (h : st = .holdover ∨ st = .free ∨ (st = .locked ∧ sel.joined = false))
      (heq : resumedState p sel quality c = noSourcePath p sel.source st (atRelease c)) : Resumes p sel quality st c (resumedState p sel quality c) := by
    have hm : st ≠ .master := by obtain rfl | rfl | ⟨rfl, -⟩ := h <;> decide
    rw [heq]
    exact (noSourceLeaves (c := atRelease c) (hno hm)).resumes h
  cases st with
  | idle => exact absurd rfl hidle
  | halted => exact absurd rfl hhalted
  | holdover => exact hnoSource (.inl rfl) (resumedState_of_alone hst (.inl rfl))
  | free => exact hnoSource (.inr (.inl rfl)) (resumedState_of_alone hst (.inr rfl))
  | acquiring =>
    rw [resumedState_of_acquiring hst]
    have ht := hno (by decide)
    exact { acquiring := fun _ => by rw [← ht]; rfl, locked := nofun, master := nofun, takeover := nofun, alone := by simp, count := fun _ => rfl,
            stopped := fun _ => rfl, started := by simp, acquiring_iff := ⟨fun _ => rfl, fun _ => rfl⟩ }
  | locked =>
    cases hj : sel.joined with
    | false => exact hnoSource (.inr (.inr ⟨rfl, hj⟩)) (resumedState_of_unjoined hst hj)
    | true =>
      rw [resumedState_of_joined hst (hjoined hj) hj]
      have ht := hno (by decide)
      exact { acquiring := nofun, locked := fun _ _ => by rw [gradeAndHops_eq, ← ht]; rfl, master := nofun, takeover := nofun, alone := by simp [hj],
              count := fun _ => rfl, stopped := fun _ => rfl, started := by simp [lockedGrade], acquiring_iff := by simp [lockedGrade] }
  | master =>
    cases ht : c.takeover with
    | false =>
      rw [resumedState_of_master hst ht, enterGenerating_master]
      have ht' : (atRelease c).takeover = false := ht
      exact { acquiring := nofun, locked := nofun, master := fun _ _ => by simp [ht'], takeover := by simp [ht], alone := by simp, count := fun _ => rfl,
              stopped := by simp, started := fun _ => rfl, acquiring_iff := by simp }
    | true =>
      have ht' : (atRelease c).takeover = true := ht
      rw [resumedState_of_takeover hst ht, noSourcePath_of_takeover (htakeover ht).2 ht']
      exact { acquiring := nofun, locked := nofun, master := by simp [ht], takeover := fun _ _ => by simp [ht'], alone := by simp, count := fun _ => rfl,
              stopped := by simp, started := fun _ => rfl, acquiring_iff := by simp }

end

theorem releasedCore_eq {st : CoreState} (p : Plan) (sel : Selection) (quality : Option Quality) {c : Core} (hwork : c.syncWork = none)
    (hacquiring : (resumedState p sel quality c).state = .acquiring ↔ st = .acquiring) :
    releasedCore p sel quality c = { c with
      state := (resumedState p sel quality c).state
      takeover := (resumedState p sel quality c).takeover
      grade := (resumedState p sel quality c).grade
      hops := (resumedState p sel quality c).hops
      holdoverCount := (resumedState p sel quality c).holdoverCount
      gen := (resumedState p sel quality c).gen
      remembered := none
      outRealign := some (c.syncIndex + if st = .acquiring then 2 else 1)
      realignPending := c.realignPending || decide (p.role ≠ .master) } := by
  have hmoves := resumedState_moves p sel quality c
  have hcarry : carryingSync (resumedState p sel quality c) = c.syncIndex + if st = .acquiring then 2 else 1 := by
    unfold carryingSync
    rw [hmoves.syncWork, hwork, hmoves.syncIndex]
    simp only [hacquiring]
    split <;> rfl
  rw [releasedCore, setRealign, hcarry]
  exact congrArg (fun e : Core => { e with
    remembered := none
    outRealign := some (c.syncIndex + if st = CoreState.acquiring then 2 else 1)
    realignPending := e.realignPending || decide (p.role ≠ Role.master) }) hmoves

/-- Settles O39: the level, the policy and the state; then the resumed state by what was remembered. -/
theorem haltReleaseResumesTheCore : Obligations.HaltReleaseResumesTheCore := by
  intro s
  have hact (hlow : s.halt.level = .low) (hfreeze : s.halt.policy = .freeze) :
      exec .haltnRelease s = .next (transmit (releaseHalt { s with halt := { s.halt with level := .high } })) := by
    change execHaltnRelease s = _
    rw [execHaltnRelease, if_neg (by rw [hlow]; decide)]
    exact congrArg Host.Outcome.next (if_pos hfreeze)
  refine ⟨fun hhigh => if_pos hhigh, fun hlow hignore => ?ignored, fun hlow hfreeze hrunning => ?running,
    fun p st hlow hfreeze hhalted hcore hplan hactive hst => ?resumes⟩
  case ignored =>
    change execHaltnRelease s = _
    rw [execHaltnRelease, if_neg (by rw [hlow]; decide)]
    exact congrArg Host.Outcome.next (if_neg (by rw [hignore]; decide))
  case running => rw [hact hlow hfreeze, releaseHalt_otherwise (s := { s with halt := { s.halt with level := .high } }) (.inl hrunning)]
  case resumes =>
    obtain ⟨-, -, -, -, -, hjoined, htakeover, -⟩ := hplan
    have hidle : st ≠ .idle := by
      rintro rfl
      exact hcore.2.2.2.2.1 hst
    have hnotHalted : st ≠ .halted := by
      rintro rfl
      exact hcore.2.2.2.2.2.1 hst
    have hbackup (ht : s.core.takeover = true) : st = .master ∧ p.role = .backup := by
      obtain ⟨hm | ⟨-, hm⟩, hrole⟩ := htakeover ht
      · rw [hhalted] at hm
        cases hm
      · rw [hactive] at hrole
        exact ⟨Option.some.inj (hst.symm.trans hm), Option.some.inj hrole⟩
    have hresumes := resumes_resumedState (sourceQuality s) hst hidle hnotHalted hbackup hjoined
    have hreleased := releasedCore_eq p s.sel (sourceQuality s) hcore.noSyncWork hresumes.acquiring_iff
    have hstopped : (atRelease s.core).gen.running = false := by
      change s.core.gen.running = false
      rw [hcore.running_eq, hhalted]
      rfl
    rw [hact hlow hfreeze, releaseHalt_of_halted (s := { s with halt := { s.halt with level := .high } }) hhalted hactive]
    change ∃ t, Host.Outcome.next (transmit (raiseTime .halted none (setCore (releasedCore p s.sel (sourceQuality s) s.core)
      { s with halt := { s.halt with level := .high } }))) = _ ∧ _
    rw [hreleased]
    generalize resumedState p s.sel (sourceQuality s) s.core = d at hresumes ⊢
    obtain ⟨hacquiring, hlocked, hmaster, htaken, halone, hcount, hkept, hstarted, -⟩ := hresumes
    have hgen (h : d.state = .locked ∨ d.state = .acquiring) : d.gen = { s.core.gen with running := false, elapsed := 0 } :=
      (hkept h).trans (congrArg (fun b => { s.core.gen with running := b, elapsed := 0 }) hstopped)
    have hmasterGen (h : d.state = .master) : d.gen = { running := true, elapsed := 0, spacing := p.nominal, fromRecord := false, cycle := 0 } := by
      rw [hstarted (.inr (.inr h)), enteredGenerator_of_stopped hstopped, if_neg (by rw [h]; simp)]
      rfl
    have haloneGen (h : d.state = .holdover ∨ d.state = .free) : d.gen = if s.core.learned.length = 8
        then { running := true, elapsed := 0, spacing := s.core.learned.headD 0, fromRecord := true, cycle := 0 }
        else { running := true, elapsed := 0, spacing := p.nominal, fromRecord := false, cycle := 0 } := by
      rw [hstarted (h.imp_right .inl), enteredGenerator_of_stopped hstopped]
      exact if_congr (and_iff_right h) rfl rfl
    refine ⟨_, rfl, rfl, rfl, hacquiring, fun hl hj q hq => hq ▸ hlocked hl hj, hmaster, htaken, fun h => ?_, hcount, hgen, hmasterGen, haloneGen⟩
    obtain ⟨hmaster, htaken, halone, -, -, -, -⟩ := halone h
    exact ⟨hmaster, fun hb hn => (htaken hb hn).1, halone⟩

end Sys2Proof.Machine
end

section
/-! SUPPORT. The failover controller and a change of the active plan (R13, R24, R79 to R86): the links' directions with the notices they raise, the core's answer, and eligibility. -/

namespace Sys2Proof.Machine

/-! ## Notices raised link by link -/

/-- A fold over distinct links whose step raises by its own link alone raises by the links as they stood before the fold. -/
theorem notices_foldl {f : State → LinkNo → State} {h : LinkNo → LinkUnit → NoticeUnit → NoticeUnit}
    (hlink : ∀ s l m, m ≠ l → link m (f s l) = link m s) (hnotices : ∀ s l, (f s l).notices = h l (link l s) s.notices)
    {ls : List LinkNo} (hls : ls.Nodup) (s : State) : (ls.foldl f s).notices = ls.foldl (fun u l => h l (link l s) u) s.notices := by
  induction ls generalizing s with
  | nil => rfl
  | cons x xs ih =>
    obtain ⟨hx, hxs⟩ := List.nodup_cons.mp hls
    rw [List.foldl_cons, ih hxs, hnotices, List.foldl_cons]
    refine List.foldl_ext _ _ _ fun u m hm => ?_
    rw [hlink s x m fun heq => hx (heq ▸ hm)]

/-- What a link's change of direction raises (R24, R46, R51). -/
def directionNotices (l : LinkNo) (d : Direction) (u : LinkUnit) (n : NoticeUnit) : NoticeUnit :=
  if u.dir = d then n
  else if u.dir = .receive then raised (.link l .off u.qual.state .direction 1) n
  else if d = .receive then raised (.link l .seek .off .direction 1) n
  else n

theorem leaveDirection_notices (l : LinkNo) (s : State) : (leaveDirection l s).notices =
    if (link l s).dir = .receive then raised (.link l .off (link l s).qual.state .direction 1) s.notices else s.notices := by
  unfold leaveDirection
  dsimp only
  split
  · rw [raiseLink_notices, link_setLink_self]
    rfl
  · rfl

theorem enterDirection_notices (l : LinkNo) (d : Direction) (s : State) : (enterDirection l d s).notices =
    if d = .receive then raised (.link l .seek (link l s).qual.state .direction 1) s.notices else s.notices := by
  unfold enterDirection
  dsimp only
  split
  · rw [raiseLink_notices, link_setLink_self]
    rfl
  · rfl

theorem setDirection_notices (sps : Nat) (l : LinkNo) (d : Direction) (s : State) :
    (setDirection sps l d s).notices = directionNotices l d (link l s) s.notices := by
  unfold setDirection directionNotices
  split
  · rfl
  · rename_i hchange
    rw [enterDirection_notices, leaveDirection_notices, link_leaveDirection, if_pos rfl]
    by_cases hreceive : (link l s).dir = .receive
    · rw [if_neg (show ¬d = .receive from fun hd => hchange (hreceive.trans hd.symm)), if_pos hreceive, if_pos hreceive]
    · rw [if_neg hreceive, if_neg hreceive]
      rfl

theorem setDirections_notices (p : Plan) (s : State) : (setDirections p s).notices =
    allLinks.foldl (fun u l => directionNotices l (p.dirs.get l) (link l s) u) s.notices := by
  have hlink (s : State) (l m : LinkNo) (hm : m ≠ l) : link m (setDirection p.sps l (p.dirs.get l) s) = link m s := by
    rw [link_setDirection, if_neg hm]
  rw [setDirections]
  exact notices_foldl (h := fun l u n => directionNotices l (p.dirs.get l) u n) hlink (fun s l => setDirection_notices p.sps l _ s) nodup_allLinks s

theorem directedLink_kept {sps : Nat} {d : Direction} {u : LinkUnit} (h : u.dir = d) : directedLink sps d u =
    if d = .receive ∧ u.qual.phase = some 0 then { u with qual := { u.qual with intervalSps := some sps } } else u := by
  subst h
  exact if_pos rfl

theorem directedLink_changed {sps : Nat} {d : Direction} {u : LinkUnit} (h : u.dir ≠ d) : directedLink sps d u = { u with
    dir := d
    rx := { msg := [], discard := false, annCur := none, annLast := none, qualCur := none, qualLast := none }
    qual := { u.qual with
      state := if d = .receive then .seek else .off
      good := 0, bad := 0, phase := none, lastInterval := none, announceSeen := false, loss := none, hold := none }
    pair := { u.pair with waiting := untilLastSync u.pair.waiting } } := by
  rw [directedLink, if_neg h, enteredLink]
  split <;> rfl

/-! ## The marks that still leave (R29) -/

theorem untilLastSync_prefix (ms : List Mark) : untilLastSync ms <+: ms := by
  induction ms with
  | nil => exact List.prefix_rfl
  | cons m ms ih =>
    unfold untilLastSync
    split
    · exact List.nil_prefix
    · exact (List.prefix_cons_inj m).mpr ih

theorem untilLastSync_append_sync (before : List Mark) {m : Mark} (h : m.kind ≠ .plain) : untilLastSync (before ++ [m]) = before ++ [m] := by
  induction before with
  | nil => exact if_neg fun hplain => h hplain.2
  | cons x xs ih =>
    rw [List.cons_append, untilLastSync, ih]
    exact if_neg fun hnil => by simp at hnil

theorem untilLastSync_of_endsWithSync {ms : List Mark} (h : EndsWithSync ms) : untilLastSync ms = ms := by
  obtain rfl | ⟨before, m, rfl, hm⟩ := h
  · rfl
  · exact untilLastSync_append_sync before hm

/-! ## The core at a change of plan (R13) -/

/-- A core not in takeover, as a change of plan hands it to the no-source path. -/
def outOfTakeover (c : Core) : Core := { c with takeover := false }

section
variable {p : Plan} {sel : Selection} {c : Core}

theorem afterPlanChange_of_master (hcounting : counting c.state) (h : p.role = .master) : afterPlanChange p sel c =
    { c with state := .master, takeover := false, grade := 0, hops := 0, gen := enteredGenerator p .master c } := by
  obtain ⟨time, valid, state, _⟩ := c
  unfold afterPlanChange
  rw [h]
  cases state with
  | idle | halted => cases hcounting
  | _ => exact enterGenerating_master p _

theorem afterPlanChange_of_joined (hst : c.state = .locked) (h : p.role ≠ .master) (hsource : sel.source.isSome) (hjoined : sel.joined = true) :
    afterPlanChange p sel c = outOfTakeover c := by
  obtain ⟨time, valid, state, _⟩ := c
  cases hst
  unfold afterPlanChange
  cases hr : p.role with
  | master => exact absurd hr h
  | _ => exact if_pos ⟨rfl, hsource, hjoined⟩

theorem afterPlanChange_of_unjoined (hcounting : counting c.state) (h : p.role ≠ .master)
    (hunjoined : ¬(c.state = .locked ∧ sel.source.isSome ∧ sel.joined = true)) :
    afterPlanChange p sel c = noSourcePath p sel.source c.state (outOfTakeover c) := by
  obtain ⟨time, valid, state, _⟩ := c
  unfold afterPlanChange
  cases state with
  | idle | halted => cases hcounting
  | _ =>
    cases hr : p.role with
    | master => exact absurd hr h
    | _ => exact if_neg hunjoined

end

theorem corePlanChange_eq (p : Plan) (before : CoreState) (s : State) : corePlanChange p before s = { s with
    core := afterPlanChange p s.sel s.core
    notices := if (before = .master ∧ (afterPlanChange p s.sel s.core).takeover = true)
          ∨ ((afterPlanChange p s.sel s.core).state, (afterPlanChange p s.sel s.core).grade, (afterPlanChange p s.sel s.core).hops)
            ≠ (s.core.state, s.core.grade, s.core.hops)
        then raised (.time (afterPlanChange p s.sel s.core).state s.core.state s.sel.source (afterPlanChange p s.sel s.core).grade
          (afterPlanChange p s.sel s.core).hops none s.core.syncIndex 1) s.notices else s.notices } := by
  have hindex : (afterPlanChange p s.sel s.core).syncIndex = s.core.syncIndex := (movesOnly_afterPlanChange p s.sel s.core).syncIndex
  unfold corePlanChange
  dsimp only
  simp only [ne_eq, Prod.mk.injEq]
  generalize afterPlanChange p s.sel s.core = c at hindex ⊢
  split
  · rw [← hindex]
    rfl
  · rfl

/-- What a change of plan leaves of a counting core. -/
structure PlanChangeLeaves (p : Plan) (sel : Selection) (c d : Core) : Prop where
  master : p.role = .master → (d.state, d.takeover, d.grade, d.hops) = (.master, false, 0, 0)
  joined : p.role ≠ .master → c.state = .locked → sel.source.isSome → sel.joined = true → d = { c with takeover := false }
  takeover : p.role = .backup → sel.source = none →
    (d.state, d.takeover, d.grade, d.hops) = (.master, true, 2, 0) ∧ d.outRealign = some (carryingSync c)
  alone : p.role = .follower ∨ (p.role = .backup ∧ sel.source.isSome) → ¬(c.state = .locked ∧ sel.source.isSome ∧ sel.joined = true) →
    (d.state, d.holdoverCount) = aloneState c.state c.learned.length c.holdoverCount ∧ d.takeover = false ∧ d.hops = c.hops
      ∧ d.grade = if d.state = .holdover then 3 else 4
  realign : ¬(p.role = .backup ∧ sel.source = none) → d.outRealign = c.outRealign
  count : d.state ≠ .holdover → d.holdoverCount = c.holdoverCount
  genKept : c.gen.running = true ∨ d.state = .locked → d.gen = c.gen
  genStarted : c.gen.running = false → d.state ≠ .locked →
    d.gen = if (d.state = .holdover ∨ d.state = .free) ∧ c.learned.length = 8
      then { c.gen with running := true, cycle := 0, spacing := c.learned.headD 0, fromRecord := true }
      else { c.gen with running := true, cycle := 0, spacing := p.nominal, fromRecord := false }

theorem planChangeLeaves {p : Plan} {sel : Selection} {c : Core} (hcounting : counting c.state) :
    PlanChangeLeaves p sel c (afterPlanChange p sel c) := by
  by_cases hm : p.role = .master
  · rw [afterPlanChange_of_master hcounting hm]
    exact { master := fun _ => rfl, joined := fun h => absurd hm h, takeover := by simp [hm], alone := by simp [hm], realign := fun _ => rfl,
            count := fun _ => rfl, genKept := fun h => enteredGenerator_of_running (h.resolve_right nofun), genStarted := fun h _ => enteredGenerator_of_stopped h }
  by_cases hj : c.state = .locked ∧ sel.source.isSome ∧ sel.joined = true
  · obtain ⟨hst, hsource, hjoined⟩ := hj
    rw [afterPlanChange_of_joined hst hm hsource hjoined]
    have hst' : (outOfTakeover c).state = .locked := hst
    exact { master := fun h => absurd h hm, joined := fun _ _ _ _ => rfl
            takeover := fun _ hn => by simp [hn] at hsource
            alone := fun _ h => absurd ⟨hst, hsource, hjoined⟩ h, realign := fun _ => rfl, count := fun _ => rfl, genKept := fun _ => rfl
            genStarted := fun _ h => absurd hst' h }
  · rw [afterPlanChange_of_unjoined hcounting hm hj]
    obtain ⟨hmaster, htaken, halone, hrealign, hcount, hgen, hgenerating⟩ :=
      noSourceLeaves (p := p) (source := sel.source) (was := c.state) (c := outOfTakeover c) rfl
    have hlocked : (noSourcePath p sel.source c.state (outOfTakeover c)).state ≠ .locked := by
      obtain h | h | h := hgenerating <;> rw [h] <;> decide
    exact { master := hmaster, joined := fun _ hst hs hjoined => absurd ⟨hst, hs, hjoined⟩ hj, takeover := htaken, alone := fun h _ => halone h
            realign := hrealign, count := hcount
            genKept := fun h => hgen.trans (enteredGenerator_of_running (h.resolve_right hlocked))
            genStarted := fun h _ => hgen.trans (enteredGenerator_of_stopped h) }

/-! ## Eligibility and the controller -/

theorem serves_iff {p : Plan} {s : State} {l : LinkNo} : serves p s l = true ↔ (link l s).dir = .receive ∧ (link l s).qual.state = .valid
    ∧ (readQuality (latestQuality (link l s).rx)).1 ≤ p.worst ∧ (readQuality (latestQuality (link l s).rx)).2 < 15 := by
  simp [serves, and_assoc]

theorem eligible_iff {s : State} {n : PlanNo} : eligible s n = true ↔
    ∃ p, s.plans.records.get n = some p ∧ s.plans.active ≠ some n ∧ p.role ≠ .master ∧ ∃ l ∈ p.cands, serves p s l = true := by
  unfold eligible
  cases s.plans.records.get n with
  | none => simp
  | some p => simp [and_assoc]

theorem find?_append_cons {before after : List PlanNo} {n : PlanNo} {f : PlanNo → Bool} (hbefore : ∀ m ∈ before, f m = false) (hn : f n = true) :
    (before ++ n :: after).find? f = some n := by
  rw [List.find?_append, List.find?_eq_none.mpr (fun m hm => by simp [hbefore m hm]), List.find?_cons_of_pos hn]
  rfl

theorem considerFailover_of_follower {p : Plan} {st : CoreState} {s : State} (hactive : activePlan s = some p)
    (h : p.role = .follower ∧ (st = .holdover ∨ st = .free)) : considerFailover st s = failover s := by
  rw [considerFailover, hactive]
  exact if_pos h

theorem considerFailover_of_other {p : Plan} {st : CoreState} {s : State} (hactive : activePlan s = some p)
    (h : ¬(p.role = .follower ∧ (st = .holdover ∨ st = .free))) : considerFailover st s = s := by
  rw [considerFailover, hactive]
  exact if_neg h

theorem failoverController_of_nothing_held {st : CoreState} {s : State} (h : s.plans.held = none ∨ s.plans.held = s.plans.active) :
    failoverController st s = considerFailover st (clearHeld s) := by
  unfold failoverController
  dsimp only
  cases hheld : s.plans.held with
  | none => rfl
  | some n =>
    rw [hheld] at h
    exact if_pos (h.resolve_left nofun).symm

theorem failoverController_of_held {st : CoreState} {s : State} {n : PlanNo} {r : Plan} (hheld : s.plans.held = some n)
    (hother : s.plans.active ≠ some n) (hrecord : s.plans.records.get n = some r) : failoverController st s = orderedSwitch n r (clearHeld s) := by
  unfold failoverController
  dsimp only
  rw [hheld]
  dsimp only
  rw [if_neg hother, hrecord]
  rfl

theorem reevaluate_plans (s : State) : (reevaluate s).plans = s.plans := by
  unfold reevaluate
  split
  · rfl
  · split <;> rfl

theorem corePlanChange_plans (p : Plan) (before : CoreState) (s : State) : (corePlanChange p before s).plans = s.plans := by
  unfold corePlanChange
  dsimp only
  split <;> rfl

theorem switchTo_active (n : PlanNo) (r : Plan) (s : State) : (switchTo n r s).plans.active = some n := by
  rw [switchTo_eq, corePlanChange_plans, reevaluate_plans, (linksAndNotices_setDirections r (activate n s)).plans]
  rfl

theorem switchTo_syncIndex (n : PlanNo) (r : Plan) (s : State) : (switchTo n r s).core.syncIndex = s.core.syncIndex :=
  (movesOnly_switchTo n r s).syncIndex

theorem orderedSwitch_notices (n : PlanNo) (r : Plan) (s : State) : orderedSwitch n r s = { switchTo n r s with
    notices := raised (.plan (some n) s.plans.active .ordered s.core.syncIndex) (switchTo n r s).notices } := by
  rw [orderedSwitch_eq, switchTo_syncIndex, raisePlan, switchTo_active]
  rfl

/-- Settles O50: eligibility, the controller's cases, and a switch link by link. -/
theorem failoverTakesTheFirstEligiblePlan : Obligations.FailoverTakesTheFirstEligiblePlan := by
  refine ⟨fun s n => ?eligible, fun p st s hactive h => ?still, fun p r st before after n s u hactive hrole hst hlist hbefore hn hrecord hu => ?fails,
    fun st s u hu => ⟨fun h => ?free, fun n r hheld hother hrecord => ?ordered⟩, fun n r s t w ht hw => ?switch,
    fun ms => ⟨endsWithSync_untilLastSync ms, untilLastSync_prefix ms, untilLastSync_of_endsWithSync⟩, fun p before s t ht hcounting => ?change⟩
  case eligible =>
    refine eligible_iff.trans (exists_congr fun p => and_congr_right fun _ => and_congr_right fun _ => and_congr_right fun _ =>
      exists_congr fun l => and_congr_right fun _ => serves_iff.trans ?_)
    cases latestQuality (link l s).rx <;> simp
  case still =>
    by_cases hconsidered : p.role = .follower ∧ (st = .holdover ∨ st = .free)
    · rw [considerFailover_of_follower hactive hconsidered]
      refine failover_of_none (List.find?_eq_none.mpr fun n hn => ?_)
      rw [h.resolve_left (not_not_intro hconsidered) n hn]
      decide
    · exact considerFailover_of_other hactive hconsidered
  case fails =>
    subst hu
    rw [considerFailover_of_follower hactive ⟨hrole, hst⟩, failover_of_found (hlist ▸ find?_append_cons hbefore hn) hrecord]
    have hplan := switchTo_active n r s
    have hindex := switchTo_syncIndex n r s
    generalize switchTo n r s = u at hplan hindex ⊢
    rw [← hplan, ← hindex]
    rfl
  case free =>
    subst hu
    exact failoverController_of_nothing_held h
  case ordered =>
    subst hu
    exact (failoverController_of_held hheld hother hrecord).trans (orderedSwitch_notices n r (clearHeld s))
  case switch =>
    change w = setDirections r (activate n s) at hw
    have hlinks (l : LinkNo) : link l w = directedLink r.sps (r.dirs.get l) (link l s) := by
      rw [hw, link_setDirections]
      rfl
    have hframe : LinksAndNotices (activate n s) w := by
      rw [hw]
      exact linksAndNotices_setDirections r _
    have hnotices : w.notices = allLinks.foldl (fun u l => directionNotices l (r.dirs.get l) (link l s) u) s.notices := by
      rw [hw, setDirections_notices]
      rfl
    rw [switchTo_eq, ← hw] at ht
    refine ⟨ht, hframe.eq, fun l hsame => ?_, fun l hother => ?_, hnotices⟩
    · rw [hlinks]
      exact directedLink_kept hsame
    · rw [hlinks]
      exact directedLink_changed hother
  case change =>
    subst ht
    have hcore := corePlanChange_core p before s
    obtain ⟨hmaster, hjoined, htakeover, halone, hrealign, hcount, hkept, hstarted⟩ := planChangeLeaves (p := p) (sel := s.sel) hcounting
    rw [hcore]
    exact ⟨corePlanChange_eq p before s, movesOnly_afterPlanChange p s.sel s.core, hmaster, hjoined, htakeover, halone, hrealign, hcount, hkept, hstarted⟩

end Sys2Proof.Machine
end

section
/-! SUPPORT. TIME_START and TIME_STOP carried out whole (R5, R22, R151, R152). -/

namespace Sys2Proof.Machine

/-! ## TIME_STOP (R152) -/

theorem foldl_if_eq_foldl_filter {α β : Type} (f : β → α → β) (p : α → Prop) [DecidablePred p] (l : List α) (b : β) :
    l.foldl (fun x y => if p y then f x y else x) b = (l.filter p).foldl f b := by
  simp [List.foldl_filter]

/-- TIME_STOP's LINK notices: one for each RECEIVE link, L0 to L5 in order (R51, R152 d). -/
theorem allOff_notices (s : State) : (allOff s).notices =
    (allLinks.filter (fun l => (link l s).dir = .receive)).foldl (fun u l => raised (.link l .off (link l s).qual.state .direction 1) u) s.notices := by
  have hlink (s : State) (l m : LinkNo) (hm : m ≠ l) : link m (if (link l s).dir = .off then s else leaveDirection l s) = link m s := by
    split
    · rfl
    · rw [link_leaveDirection, if_neg hm]
  have hnotices (s : State) (l : LinkNo) : (if (link l s).dir = .off then s else leaveDirection l s).notices =
      if (link l s).dir = .receive then raised (.link l .off (link l s).qual.state .direction 1) s.notices else s.notices := by
    by_cases hoff : (link l s).dir = .off
    · rw [if_pos hoff, if_neg (by rw [hoff]; decide)]
    · rw [if_neg hoff, leaveDirection_notices]
  have hdrop (s : State) : (dropWaiting s).notices = s.notices := rfl
  rw [← foldl_if_eq_foldl_filter, allOff, hdrop]
  exact notices_foldl (h := fun l u n => if u.dir = .receive then raised (.link l .off u.qual.state .direction 1) n else n) hlink hnotices
    nodup_allLinks s

/-- The notices of TIME_STOP in the order R152 raises them. -/
def stopNotices (s : State) : NoticeUnit :=
  raised (.plan none s.plans.active .stop s.core.syncIndex)
    ((allLinks.filter (fun l => (link l s).dir = .receive)).foldl (fun u l => raised (.link l .off (link l s).qual.state .direction 1) u)
      (raised (.time .idle s.core.state s.sel.source 4 15 none s.core.syncIndex 1)
        ((s.sched.queue.filter (fun e => e.outcome = none)).foldl
          (fun u e => raised (.actions [{ id := e.id, action := e.action, outcome := .flushed, orderId := e.orderId }]) u) s.notices)))

theorem stoppedState_flush_links (s : State) : (stoppedState (flush s)).links = s.links := by
  rw [flush_eq]
  rfl

theorem stoppedState_flush_notices (s : State) : (stoppedState (flush s)).notices =
    raised (.time .idle s.core.state s.sel.source 4 15 none s.core.syncIndex 1)
      ((s.sched.queue.filter (fun e => e.outcome.isNone)).foldl (fun u e => raised (.actions [itemOf e .flushed]) u) s.notices) := by
  rw [flush_eq]
  rfl

theorem isNone_eq_decide {α : Type} (o : Option α) [Decidable (o = none)] : o.isNone = decide (o = none) := by
  cases o <;> simp

theorem stopTime_notices (s : State) : (stopTime s).notices = stopNotices s := by
  rw [stopTime_eq]
  dsimp only
  rw [allOff_notices, stoppedState_flush_notices]
  simp only [link_congr (stoppedState_flush_links s), isNone_eq_decide]
  rfl

/-- TIME_STOP's effect, block by block. -/
theorem stopTime_blocks (s : State) : ∃ k, (∀ l, k.get l = stoppedLink (link l s)) ∧ stopTime s = { s with
    core := stoppedCore s.core
    links := k
    outSet := none
    plans := { s.plans with active := none }
    sel := { source := none, joined := false }
    sched := { s.sched with queue := s.sched.queue.map (fun e => if e.outcome = none then { e with outcome := some .flushed } else e) }
    pulses := s.pulses.map idlePulse
    notices := stopNotices s } := by
  refine ⟨(stopTime s).links, fun l => link_stopTime l s, ?_⟩
  have hnotices := stopTime_notices s
  rw [stopTime_eq] at hnotices ⊢
  rw [← hnotices]
  simp only [Option.isNone_iff_eq_none]

/-- What TIME_STOP leaves of a link (R24, R152, Table 3-6). -/
def TurnedOff (u v : LinkUnit) : Prop :=
  v.dir = .off ∧ v.offset = u.offset ∧ v.holdoff = u.holdoff
    ∧ v.qual.badSteps = u.qual.badSteps ∧ v.qual.syncFaults = u.qual.syncFaults ∧ v.qual.losses = u.qual.losses
    ∧ v.pair = { u.pair with waiting := [] }
    ∧ (u.dir ≠ .off → v.qual = { u.qual with
          state := .off, good := 0, bad := 0, phase := none, lastInterval := none, announceSeen := false, loss := none, hold := none }
        ∧ v.rx = { msg := [], discard := false, annCur := none, annLast := none, qualCur := none, qualLast := none })
    ∧ (u.dir = .off → v.qual = u.qual ∧ v.rx = u.rx)

theorem turnedOff_stoppedLink (u : LinkUnit) : TurnedOff u (stoppedLink u) := by
  unfold stoppedLink
  by_cases hoff : u.dir = .off
  · rw [if_pos hoff]
    exact ⟨hoff, rfl, rfl, rfl, rfl, rfl, rfl, fun h => absurd hoff h, fun _ => ⟨rfl, rfl⟩⟩
  · rw [if_neg hoff]
    exact ⟨rfl, rfl, rfl, rfl, rfl, rfl, rfl, fun _ => ⟨rfl, rfl⟩, fun h => absurd h hoff⟩

theorem timeStop_eq (b : List Byte) (s : State) : timeStop b s =
    ok (u64 s.core.time ++ u32 s.core.syncIndex.toNat) (if s.core.state = .idle then s else stopTime s) := by
  unfold timeStop
  split
  · rfl
  · dsimp only
    rw [stopTime_core]
    rfl

/-- Settles O31: in IDLE the answer alone, and else the effect block by block. -/
theorem timeStopIsCarriedOutWhole : Obligations.TimeStopIsCarriedOutWhole := by
  refine fun tag s h => ⟨fun hidle => ?idle, fun hrunning => ?running⟩
  case idle =>
    have hbody := timeStop_eq [] (dequeue s)
    rw [if_pos (show (dequeue s).core.state = .idle from hidle)] at hbody
    exact take_answerWith h rfl rfl (List.mem_singleton_self 0) hbody rfl
  case running =>
    have hbody := timeStop_eq [] (dequeue s)
    rw [if_neg (show ¬(dequeue s).core.state = .idle from hrunning)] at hbody
    obtain ⟨k, hk, hstop⟩ := stopTime_blocks (dequeue s)
    rw [hstop] at hbody
    refine ⟨_, take_answerWith h rfl rfl (List.mem_singleton_self 0) hbody rfl, rfl, rfl, rfl, rfl, fun l => ?_, rfl, fun o => ?_, rfl, rfl, rfl, rfl, rfl,
      rfl, rfl, rfl⟩
    · exact (congrArg (TurnedOff (link l s)) (hk l)).mpr (turnedOff_stoppedLink (link l s))
    · exact Per4.get_map _ _ o

/-! ## TIME_START (R151) -/

/-- The state TIME_START enters (R151 b). -/
def startState : Option Time → Role → CoreState
  | none, _ => .acquiring
  | some _, .master => .master
  | some _, .backup => .master
  | some _, .follower => .free

/-- The grade and hops of a core just started (R19, Table 1-4). -/
def startGrade : Option Time → Role → Nat × Nat
  | none, _ => (4, 15)
  | some _, .master => (0, 0)
  | some _, .backup => (2, 0)
  | some _, .follower => (4, 15)

/-- An IDLE core as TIME_START leaves it (R151 b, Table 1-3). -/
theorem startedCore_eq (p : Plan) (v : Option Time) {c : Core} (h : CoreInv c) (hidle : c.state = .idle) : startedCore p v c = { c with
    time := v.getD c.time, valid := v.isSome, state := startState v p.role, takeover := v.isSome && decide (p.role = .backup)
    syncIndex := 0, steps := 0, ticks := 0, record := { final := v.getD c.record.final, valid := v.isSome }, learned := []
    gen := if v.isSome then { running := true, elapsed := 0, spacing := p.nominal, fromRecord := false, cycle := 0 }
      else { c.gen with running := false, elapsed := 0 }
    holdoverCount := 0, realignPending := false, outRealign := none, remembered := none
    grade := (startGrade v p.role).1, hops := (startGrade v p.role).2, syncWork := none } := by
  have hlearned : c.learned = [] := h.2.2.2.2.2.2.2.2.2.1 hidle
  have hwork := h.noSyncWork
  have hstopped : c.gen.running = false := by rw [h.running_eq, hidle]; rfl
  have hhops : c.hops = 15 := by
    have hgrade : GradeFollowsState c := h.2.2.2.2.2.2.2.1
    rw [GradeFollowsState, hidle] at hgrade
    exact congrArg Prod.snd hgrade
  cases v with
  | none => simp [startedCore, ownGrade, hlearned, hwork, startState, startGrade, hstopped]
  | some x =>
    unfold startedCore
    cases hrole : p.role with
    | master => simp [enterGenerating_master, enteredGenerator, hlearned, hwork, startState, startGrade, hstopped]
    | backup => simp [enterGenerating_master, enteredGenerator, hlearned, hwork, startState, startGrade, hstopped]
    | follower => simp [enterGenerating_free, enteredGenerator, hlearned, hwork, startState, startGrade, hstopped, hhops]

/-- What TIME_START leaves of a link that was OFF. -/
def TurnedOn (d : Direction) (u v : LinkUnit) : Prop :=
  v.dir = d ∧ (v.qual.state = if d = .receive then .seek else .off)
    ∧ (d = .receive → v.qual = { u.qual with
        state := .seek, good := 0, bad := 0, phase := none, lastInterval := none, announceSeen := false, loss := none, hold := none })
    ∧ v.rx = { msg := [], discard := false, annCur := none, annLast := none, qualCur := none, qualLast := none }
    ∧ v.offset = u.offset ∧ v.holdoff = u.holdoff
    ∧ v.qual.badSteps = u.qual.badSteps ∧ v.qual.syncFaults = u.qual.syncFaults ∧ v.qual.losses = u.qual.losses ∧ v.pair = u.pair

theorem turnedOn_directedLink (sps : Nat) (d : Direction) {u : LinkUnit} (h : LinkInv u) (hdir : u.dir = .off) (hqual : u.qual.state = .off) :
    TurnedOn d u (directedLink sps d u) := by
  obtain ⟨hrx, hwaiting, -, -⟩ := h
  by_cases hd : u.dir = d
  · rw [directedLink_kept hd]
    rw [hdir] at hd
    subst hd
    exact ⟨hdir, hqual, nofun, hrx (by rw [hdir]; decide), rfl, rfl, rfl, rfl, rfl, rfl⟩
  · rw [directedLink_changed hd]
    have hpair : { u.pair with waiting := untilLastSync u.pair.waiting } = u.pair := by
      rw [untilLastSync_of_endsWithSync (hwaiting (by rw [hdir]; decide))]
    exact ⟨rfl, rfl, fun hreceive => by rw [if_pos hreceive], rfl, rfl, rfl, rfl, rfl, rfl, hpair⟩

/-- The LINK notices of TIME_START: one for each link that becomes RECEIVE, L0 to L5 in order (R46, R151 c). -/
theorem setDirections_notices_of_off (p : Plan) {s : State} (hdir : ∀ l, (link l s).dir = .off) : (setDirections p s).notices =
    (allLinks.filter (fun l => p.dirs.get l = .receive)).foldl (fun u l => raised (.link l .seek .off .direction 1) u) s.notices := by
  rw [setDirections_notices, ← foldl_if_eq_foldl_filter]
  refine List.foldl_ext _ _ _ fun u l _ => ?_
  rw [directionNotices, hdir l]
  by_cases hoff : .off = p.dirs.get l
  · rw [if_pos hoff, ← hoff]
    rfl
  · rw [if_neg hoff]
    rfl

theorem choose_of_no_fit {p : Plan} {s : State} (hsource : s.sel.source = none) (hlinks : ∀ l, (link l s).qual.state ≠ .valid) : choose p s = none := by
  have husable (l : LinkNo) : usable p s l = false := by
    refine Bool.eq_false_of_not_eq_true fun h => ?_
    obtain ⟨-, -, hvalid | ⟨-, hselected⟩, -, -⟩ := (usable_iff p s l).mp h
    · exact hlinks l hvalid
    · rw [hsource] at hselected
      cases hselected
  have hfind : p.cands.find? (usable p s) = none := List.find?_eq_none.mpr fun l _ => by rw [husable l]; decide
  cases hrevertive : p.revertive with
  | true => rw [choose_of_revertive hrevertive, hfind]
  | false => rw [choose_of_no_usable_source hrevertive fun l _ => husable l, hfind]

theorem offered_of_finished {c : Schedule} (h : ∀ e ∈ c.queue, e.outcome.isSome) : offered c = [] := by
  have hnone : c.queue.filter offerable = [] := List.filter_eq_nil_iff.mpr fun e he => by
    obtain ⟨o, ho⟩ := Option.isSome_iff_exists.mp (h e he)
    simp [offerable, ho]
  rw [offered, hnone]
  rfl

theorem spendOffers_of_none {c : Schedule} (h : offered c = []) : spendOffers c = c := by
  rw [spendOffers, h]
  simp

/-- The notices of TIME_START in the order R151 raises them. -/
def startNotices (n : PlanNo) (p : Plan) (c : Core) (u : NoticeUnit) : NoticeUnit :=
  raised (.plan (some n) none .start 0)
    ((allLinks.filter (fun l => p.dirs.get l = .receive)).foldl (fun u l => raised (.link l .seek .off .direction 1) u)
      (raised (.time c.state .idle none c.grade c.hops none 0 1) u))

/-- The set that TIME_START composes with a start value (R27, R151). -/
def startSet (n : PlanNo) (p : Plan) (c : Core) (x : Time) : List Byte :=
  messageBytes (.announce { time := x + BitVec.ofNat 64 p.sps, plan := n })
    ++ messageBytes (.quality { grade := c.grade, hops := c.hops, takeover := c.takeover, core := c.state })

/-- A state started, its message set apart (R151). -/
def startedBlocks (n : PlanNo) (p : Plan) (c : Core) (k : Per6 LinkUnit) (s : State) : State :=
  { s with core := c, links := k, plans := { s.plans with active := some n }, notices := startNotices n p c s.notices }

/-- TIME_START's effect, block by block, in IDLE under the plan table's invariant. -/
theorem startTime_blocks {n : PlanNo} {p : Plan} (v : Option Time) {s : State} (hplan : PlanInv s) (hcore : CoreInv s.core)
    (hidle : s.core.state = .idle) (hrecord : s.plans.records.get n = some p) :
    ∃ k, (∀ l, k.get l = directedLink p.sps (p.dirs.get l) (link l s)) ∧ startTime n p v s = { startedBlocks n p (startedCore p v s.core) k s with
      outSet := v.map (startSet n p (startedCore p v s.core)) } := by
  have hoff := qual_off_of_idle hplan hidle
  have hsel := unselected_of_idle hplan hidle
  have hsource : s.sel.source = none := congrArg Selection.source hsel
  have hindex : (startedCore p v s.core).syncIndex = 0 := by rw [startedCore_eq p v hcore hidle]
  have hlinks (l : LinkNo) : link l (setDirections p (startedState n p v s)) = directedLink p.sps (p.dirs.get l) (link l s) :=
    link_setDirections p l (startedState n p v s)
  have hframe := linksAndNotices_setDirections p (startedState n p v s)
  have hnotices := setDirections_notices_of_off p (s := startedState n p v s) fun l => (hoff l).1
  have hactive : activePlan (setDirections p (startedState n p v s)) = some p := (activePlan_setDirections p _).trans hrecord
  have hsame : reevaluate (setDirections p (startedState n p v s)) = setDirections p (startedState n p v s) := by
    have hnone : (setDirections p (startedState n p v s)).sel.source = none := by
      rw [hframe.sel]
      exact hsource
    refine reevaluate_same hactive ((choose_of_no_fit hnone fun l => ?_).trans hnone.symm)
    rw [hlinks]
    by_cases hd : (link l s).dir = p.dirs.get l
    · have hoffLink := (hoff l).2
      rw [directedLink_kept hd]
      split
      all_goals
        rw [hoffLink]
        decide
    · rw [directedLink_changed hd]
      dsimp only
      split <;> decide
  obtain ⟨-, -, -, -, -, -, -, hrest⟩ := hplan
  obtain ⟨-, houtSet, hfinished⟩ := hrest hidle
  have hoffered : offered s.sched = [] := offered_of_finished hfinished
  rw [startTime_eq, hsame]
  generalize setDirections p (startedState n p v s) = w at hlinks hframe hnotices
  obtain ⟨k, u, rfl⟩ := hframe
  refine ⟨k, hlinks, ?_⟩
  change u = _ at hnotices
  have hraised : raisePlan none .start 0 { startedState n p v s with links := k, notices := u } =
      startedBlocks n p (startedCore p v s.core) k s := by
    rw [hnotices, startedBlocks, startNotices, ← hsource, ← hindex]
    rfl
  rw [hraised]
  cases v with
  | none =>
    rw [Option.map_none, ← houtSet]
    rfl
  | some x =>
    have hfinal : (startedCore p (some x) s.core).record.final = x := by rw [startedCore_eq p (some x) hcore hidle]; rfl
    have hcomposed := compose_eq (s := startedBlocks n p (startedCore p (some x) s.core) k s) rfl hrecord
    rw [composedSet, show (startedBlocks n p (startedCore p (some x) s.core) k s).sched = s.sched from rfl, spendOffers_of_none hoffered, hoffered,
      List.flatMap_nil, List.append_nil, show (startedBlocks n p (startedCore p (some x) s.core) k s).core = startedCore p (some x) s.core from rfl,
      hfinal] at hcomposed
    exact hcomposed

/-- TIME_START's payload read: a plan's index, and a start value or none (Table 9-3). -/
theorem timeStart_fields {b : List Byte} {v : Option Time} {n : PlanNo} {p : Plan}
    (h : b = [BitVec.ofNat 8 n.val] ∧ v = none ∧ p.role ≠ .master ∨ ∃ x, v = some x ∧ b = BitVec.ofNat 8 n.val :: u64 x) :
    b.length ∈ [1, 9] ∧ planOf (byteAt b 0) = some n ∧ (if b.length = 9 then some (timeAt b 1) else none) = v ∧ ¬(p.role = .master ∧ v = none) := by
  obtain ⟨rfl, rfl, hrole⟩ | ⟨x, rfl, rfl⟩ := h
  · exact ⟨by simp, by rw [byteAt_cons_zero, planOf_byte], rfl, fun hmaster => hrole hmaster.1⟩
  · have hlen : (BitVec.ofNat 8 n.val :: u64 x).length = 9 := rfl
    have htime : timeAt (BitVec.ofNat 8 n.val :: u64 x) 1 = x :=
      timeAt_of_u64 rfl
    exact ⟨by rw [hlen]; decide, by rw [byteAt_cons_zero, planOf_byte], by rw [if_pos hlen, htime], fun hnone => nomatch hnone.2⟩

theorem timeStart_starts {b : List Byte} {v : Option Time} {n : PlanNo} {p : Plan} {s : State} (hidle : s.core.state = .idle)
    (hhalt : ¬(s.halt.policy = .freeze ∧ s.halt.level = .low)) (hrecord : s.plans.records.get n = some p) (hn : planOf (byteAt b 0) = some n)
    (hv : (if b.length = 9 then some (timeAt b 1) else none) = v) (hmaster : ¬(p.role = .master ∧ v = none)) : timeStart b s =
      ok (u8 (codeCoreState (startTime n p v s).core.state) ++ u8 (codeFlag (startTime n p v s).core.valid)) (startTime n p v s) := by
  have hready := timeStart_of_ready (b := b) hidle hhalt
  rw [hn, hv] at hready
  dsimp only at hready
  rw [hrecord] at hready
  exact hready.trans (if_neg hmaster)

/-- Settles O30: the checks passed, then the effect block by block. -/
theorem timeStartIsCarriedOutWhole : Obligations.TimeStartIsCarriedOutWhole := by
  intro tag b v n p s hplan hcore hlinks hidle hhalt hrecord hb h
  obtain ⟨hlen, hn, hv, hmaster⟩ := timeStart_fields hb
  have hbody := timeStart_starts (s := dequeue s) hidle hhalt hrecord hn hv hmaster
  obtain ⟨k, hk, hstart⟩ := startTime_blocks (s := dequeue s) v hplan hcore hidle hrecord
  have hoff := qual_off_of_idle hplan hidle
  have hlink (l : LinkNo) : TurnedOn (p.dirs.get l) (link l s) (k.get l) := by
    rw [hk l]
    exact turnedOn_directedLink p.sps _ (hlinks l) (hoff l).1 (hoff l).2
  have hsel := unselected_of_idle hplan hidle
  have hc := startedCore_eq p v hcore hidle
  rw [hstart] at hbody
  change startedCore p v s.core = _ at hc
  change timeStart b (dequeue s) = ok (u8 (codeCoreState (startedCore p v s.core).state) ++ u8 (codeFlag (startedCore p v s.core).valid))
    { startedBlocks n p (startedCore p v s.core) k (dequeue s) with outSet := v.map (startSet n p (startedCore p v s.core)) } at hbody
  generalize startedCore p v s.core = c at hc hbody
  have hexec := take_answerWith h rfl rfl hlen hbody rfl
  subst hc
  refine ⟨_, hexec, rfl, ?state, ?takeover, rfl, rfl, rfl, ?unsynced, ?grades, rfl, rfl, rfl, rfl, rfl, rfl, rfl, rfl, rfl,
    ?elapsed, ?stopped, ?running, hlink, hsel, rfl, rfl, rfl, rfl, rfl, rfl, rfl, rfl, rfl, rfl, rfl⟩
  case state => cases v <;> cases p.role <;> rfl
  case takeover => exact (Bool.and_eq_true _ _).to_iff.trans (and_congr_right fun _ => decide_eq_true_iff)
  case unsynced =>
    rintro rfl
    rfl
  case grades =>
    intro hv
    obtain ⟨x, rfl⟩ := Option.isSome_iff_exists.mp hv
    cases p.role <;> rfl
  case elapsed => cases v <;> rfl
  case stopped =>
    rintro rfl
    rfl
  case running => exact fun hv => if_pos hv

end Sys2Proof.Machine
end

section
/-! SUPPORT. The internal generator (R7): one step counted, plain or a sync, and what the firing and the failover controller leave of a core that generates. -/

namespace Sys2Proof.Machine

/-! ## What a firing leaves -/

/-- Only the time value, the outbound realign, the held target, the outputs, the schedule and the notices may differ. -/
def Fires (s t : State) : Prop := ∃ v r held q c n, t = { s with
  core := { s.core with time := v, outRealign := r }, plans := { s.plans with held := held }, pulses := q, sched := c, notices := n }

theorem Fires.refl (s : State) : Fires s s := ⟨_, _, _, _, _, _, rfl⟩

theorem Fires.trans {s t u : State} (h : Fires s t) (k : Fires t u) : Fires s u := by
  obtain ⟨v1, r1, h1, q1, c1, n1, rfl⟩ := h
  obtain ⟨v2, r2, h2, q2, c2, n2, rfl⟩ := k
  exact ⟨v2, r2, h2, q2, c2, n2, rfl⟩

theorem fires_applyEntry (acc : Firing × State) (e : Entry) : Fires acc.2 (applyEntry acc e).2 := by
  unfold applyEntry
  dsimp only
  split
  · exact ⟨_, _, _, _, _, _, rfl⟩
  · split <;> exact ⟨_, _, _, _, _, _, rfl⟩
  · exact ⟨_, _, _, _, _, _, rfl⟩

theorem fires_applyEntries (es : List Entry) (acc : Firing × State) : Fires acc.2 (es.foldl applyEntry acc).2 := by
  induction es generalizing acc with
  | nil => exact .refl _
  | cons e es ih => exact (fires_applyEntry acc e).trans (ih _)

theorem fires_reportLoads (v : Time) (b : Bool) (s : State) : Fires s (reportLoads v b s) := by
  unfold reportLoads
  split
  · exact .refl s
  · cases b <;> exact ⟨_, _, _, _, _, _, rfl⟩

theorem fires_reportFiring (o : List (Nat × Ending)) (es : List Entry) (s : State) : Fires s (reportFiring o es s) := by
  unfold reportFiring
  induction es generalizing s with
  | nil => exact .refl s
  | cons e es ih =>
    refine .trans ?_ (ih _)
    dsimp only
    split <;> exact ⟨_, _, _, _, _, _, rfl⟩

theorem fires_fire (v : Time) (r : SyncRecord) (sps : Nat) (s : State) : Fires s (fire v r sps s) := by
  unfold fire
  dsimp only
  exact ((fires_applyEntries _ _).trans (fires_reportLoads _ _ _)).trans (.trans ⟨_, _, _, _, _, _, rfl⟩ (fires_reportFiring _ _ _))

/-- A sync with no entry due fires nothing. -/
theorem fire_of_none {v : Time} (r : SyncRecord) (sps : Nat) {s : State} (hnone : dueEntries v s.sched.queue = []) (htime : s.core.time = v) :
    fire v r sps s = s := by
  unfold fire
  rw [hnone]
  dsimp only [List.foldl_nil, List.map_nil]
  rw [reportLoads, if_pos htime]
  rfl

/-! ## What the failover controller leaves -/

/-- Only the core, the links, the plan table, the selection and the notices may differ. -/
def Switches (s t : State) : Prop := ∃ c k p q n, t = { s with core := c, links := k, plans := p, sel := q, notices := n }

theorem Switches.refl (s : State) : Switches s s := ⟨_, _, _, _, _, rfl⟩

theorem Switches.trans {s t u : State} (h : Switches s t) (k : Switches t u) : Switches s u := by
  obtain ⟨c1, k1, p1, q1, n1, rfl⟩ := h
  obtain ⟨c2, k2, p2, q2, n2, rfl⟩ := k
  exact ⟨c2, k2, p2, q2, n2, rfl⟩

theorem Switches.kept {s t : State} (h : Switches s t) : t.kept = s.kept := by
  obtain ⟨c, k, p, q, n, rfl⟩ := h
  rfl

theorem switches_reevaluate (s : State) : Switches s (reevaluate s) := by
  unfold reevaluate
  split
  · exact .refl s
  · split <;> exact ⟨_, _, _, _, _, rfl⟩

theorem LinksAndNotices.switches {s t : State} (h : LinksAndNotices s t) : Switches s t := by
  obtain ⟨k, n, rfl⟩ := h
  exact ⟨_, _, _, _, _, rfl⟩

theorem switches_corePlanChange (p : Plan) (before : CoreState) (s : State) : Switches s (corePlanChange p before s) := by
  rw [corePlanChange_eq]
  exact ⟨_, _, _, _, _, rfl⟩

theorem switches_switchTo (n : PlanNo) (p : Plan) (s : State) : Switches s (switchTo n p s) := by
  rw [switchTo_eq]
  have hactivate : Switches s (activate n s) := ⟨_, _, _, _, _, rfl⟩
  exact ((hactivate.trans (linksAndNotices_setDirections p _).switches).trans (switches_reevaluate _)).trans (switches_corePlanChange p _ _)

theorem switches_failover (s : State) : Switches s (failover s) := by
  obtain h | ⟨t, p, -, h⟩ := failover_cases s <;> rw [h]
  · exact .refl s
  · exact (switches_switchTo t p s).trans ⟨_, _, _, _, _, rfl⟩

theorem switches_considerFailover (st : CoreState) (s : State) : Switches s (considerFailover st s) := by
  obtain h | h := considerFailover_cases st s <;> rw [h]
  · exact .refl s
  · exact switches_failover s

theorem switches_failoverController (st : CoreState) (s : State) : Switches s (failoverController st s) := by
  have hclear : Switches s (clearHeld s) := ⟨_, _, _, _, _, rfl⟩
  obtain h | ⟨t, p, -, -, h⟩ := failoverController_cases st s <;> rw [h]
  · exact hclear.trans (switches_considerFailover st _)
  · rw [orderedSwitch_notices]
    exact (hclear.trans (switches_switchTo t p _)).trans ⟨_, _, _, _, _, rfl⟩

/-- With no target held and no failover to consider, the controller changes nothing. -/
theorem failoverController_of_still {p : Plan} {st : CoreState} {s : State} (hactive : activePlan s = some p) (hheld : s.plans.held = none)
    (hstill : ¬(p.role = .follower ∧ (st = .holdover ∨ st = .free)) ∨ s.plans.fallback = []) : failoverController st s = s := by
  have hclear : clearHeld s = s := by rw [clearHeld, ← hheld]
  rw [failoverController_of_nothing_held (.inl hheld), hclear]
  by_cases hconsidered : p.role = .follower ∧ (st = .holdover ∨ st = .free)
  · rw [considerFailover_of_follower hactive hconsidered]
    exact failover_of_none (by rw [hstill.resolve_left (not_not_intro hconsidered)]; rfl)
  · exact considerFailover_of_other hactive hconsidered

/-! ## A generator that runs goes on (R7) -/

/-- The generator stands as it runs. -/
def GenKept (c d : Core) : Prop := c.gen.running = true → d.gen = c.gen

theorem GenKept.trans {c d e : Core} (h : GenKept c d) (k : GenKept d e) : GenKept c e := fun hc => by
  have hd := h hc
  exact (k (by rw [hd]; exact hc)).trans hd

theorem genKept_enterGenerating (p : Plan) (st : CoreState) (c : Core) : GenKept c (enterGenerating p st c) := fun h => by
  rw [enterGenerating_eq]
  exact enteredGenerator_of_running h

theorem genKept_takeOver (p : Plan) (c : Core) : GenKept c (takeOver p c) := by
  unfold takeOver
  split
  · exact genKept_enterGenerating p .master c
  · exact fun h => genKept_enterGenerating p .master _ h

theorem genKept_carryOn (p : Plan) (was : CoreState) (c : Core) : GenKept c (carryOn p was c) := by
  intro h
  rw [carryOn_eq]
  exact enteredGenerator_of_running h

theorem genKept_noSourcePath (p : Plan) (source : Option LinkNo) (was : CoreState) (c : Core) : GenKept c (noSourcePath p source was c) := by
  unfold noSourcePath
  split
  · exact fun h => genKept_enterGenerating p .master _ h
  · exact genKept_takeOver p c
  · split
    · exact genKept_enterGenerating p .master c
    · exact genKept_carryOn p was c
  · exact genKept_carryOn p was c

theorem genKept_afterSelection (p : Plan) (source : Option LinkNo) (c : Core) : GenKept c (afterSelection p source c) := by
  unfold afterSelection
  split
  · exact genKept_noSourcePath p source _ c
  · split
    · exact genKept_takeOver p c
    · exact fun _ => rfl
  · split
    · exact genKept_takeOver p c
    · exact fun _ => rfl
  all_goals exact fun _ => rfl

theorem genKept_afterPlanChange (p : Plan) (sel : Selection) (c : Core) : GenKept c (afterPlanChange p sel c) := by
  unfold afterPlanChange
  split
  · exact fun _ => rfl
  · exact fun _ => rfl
  · split
    · exact fun h => genKept_enterGenerating p .master _ h
    all_goals
      dsimp only
      split
      · exact fun _ => rfl
      · exact fun h => genKept_noSourcePath p _ _ _ h

theorem genKept_reevaluate (s : State) : GenKept s.core (reevaluate s).core := by
  obtain h | ⟨p, source, h⟩ := reevaluate_core s <;> rw [h]
  · exact fun _ => rfl
  · exact genKept_afterSelection p source s.core

theorem genKept_switchTo (n : PlanNo) (p : Plan) (s : State) : GenKept s.core (switchTo n p s).core := by
  rw [switchTo_eq, corePlanChange_core]
  have h := genKept_reevaluate (setDirections p (activate n s))
  rw [setDirections_core] at h
  exact h.trans (genKept_afterPlanChange p _ _)

theorem genKept_considerFailover (st : CoreState) (s : State) : GenKept s.core (considerFailover st s).core := by
  obtain h | h := considerFailover_cases st s <;> rw [h]
  · exact fun _ => rfl
  · obtain h | ⟨t, p, -, h⟩ := failover_cases s <;> rw [h]
    · exact fun _ => rfl
    · exact genKept_switchTo t p s

theorem genKept_failoverController (st : CoreState) (s : State) : GenKept s.core (failoverController st s).core := by
  obtain h | ⟨t, p, -, -, h⟩ := failoverController_cases st s <;> rw [h]
  · exact genKept_considerFailover st (clearHeld s)
  · exact genKept_switchTo t p (clearHeld s)

/-! ## One counted step -/

theorem advanceGenerator_eq {p : Plan} {c : Core} {g : Generator} (helapsed : g.elapsed = c.gen.elapsed - c.gen.spacing) (h : NextInterval p c g) :
    advanceGenerator p c = { c with gen := g } := by
  obtain ⟨hrunning, hcycle, hnext⟩ := h
  unfold advanceGenerator fixSpacing
  have hspacing : nextSpacing p { c with gen := { c.gen with
      elapsed := c.gen.elapsed - c.gen.spacing, cycle := if c.gen.fromRecord then c.gen.cycle + 1 else c.gen.cycle } } = (g.spacing, g.fromRecord) := by
    rw [hnext, hcycle]
    exact if_congr (and_congr_right fun _ => learnedValid_iff _) rfl rfl
  dsimp only
  rw [hspacing, ← helapsed, ← hcycle, ← hrunning]

theorem emit_of_mayEmit (m : Mark) {s : State} (h : mayEmit s.core = true) : emit m s = { s with links := markOnSendLinks m s.links } := if_pos h

/-- The message set composed before an interval's first step (R27). -/
theorem composeIfDue_of_mayEmit {s : State} (h : mayEmit s.core = true) : composeIfDue s = if s.outSet = none then compose s else s := by
  unfold composeIfDue
  simp [h]

theorem composeIfDue_of_not_due {s : State} (h : s.outSet.isSome ∨ mayEmit s.core = false) : composeIfDue s = s := by
  refine if_neg fun ⟨hnone, hmay⟩ => ?_
  obtain h | h := h
  · rw [Option.isNone_iff_eq_none.mp hnone] at h
    cases h
  · rw [hmay] at h
    cases h

/-- The set composed does not depend on the generator. -/
theorem composeIfDue_setGen (g : Generator) (s : State) :
    composeIfDue (setCore { s.core with gen := g } s) = setCore { s.core with gen := g } (composeIfDue s) := by
  by_cases hdue : s.outSet.isNone ∧ mayEmit s.core
  · have hset : composeIfDue (setCore { s.core with gen := g } s) = compose (setCore { s.core with gen := g } s) := if_pos hdue
    have hs : composeIfDue s = compose s := if_pos hdue
    rw [hset, hs]
    have hplan : activePlan (setCore { s.core with gen := g } s) = activePlan s := rfl
    unfold compose
    rw [hplan, setCore_plans]
    cases s.plans.active <;> cases activePlan s <;> rfl
  · have hset : composeIfDue (setCore { s.core with gen := g } s) = setCore { s.core with gen := g } s := if_neg hdue
    have hs : composeIfDue s = s := if_neg hdue
    rw [hset, hs]

/-- Only the message set and the schedule may differ. -/
theorem composeIfDue_frame (s : State) : composeIfDue s = { s with outSet := (composeIfDue s).outSet, sched := (composeIfDue s).sched } := by
  unfold composeIfDue compose
  split
  · split <;> rfl
  · rfl

theorem satSucc_of_lt {max n : Nat} (h : n < max) : satSucc max n = n + 1 := min_eq_left h

/-- A plain step counted and relayed by a core that may emit (R1, R3, R26, R28). -/
theorem countPlain_eq {bs : List Byte} {s : State} (hmay : mayEmit s.core = true) (hset : (composeIfDue s).outSet = some bs)
    (hsteps : s.core.steps < 4294967295) : countPlain s = { composeIfDue s with
      core := { s.core with time := s.core.time + 1, ticks := 0, steps := s.core.steps + 1 }
      pulses := s.pulses.map stepPulse
      links := markOnSendLinks { kind := .plain, byte := bs[s.core.steps]? } s.links } := by
  have hframe := composeIfDue_frame s
  unfold countPlain
  generalize composeIfDue s = b at hset hframe
  rw [hset] at hframe
  rw [hframe]
  dsimp only [setCore, countPulses, countTime]
  rw [satSucc_of_lt (show s.core.steps < Config.maxSteps from hsteps)]
  exact emit_of_mayEmit _ hmay

/-- One step due, and none after it: the generator counts one step. -/
theorem runGenerator_once {p : Plan} {s : State} (hactive : activePlan s = some p) (hdue : stepDue s.core = true)
    (hstop : stepDue (countGenerated p s).core = false) : runGenerator false s = countGenerated p s := by
  have hstopped (fuel : Nat) : countWhile stepDue fuel true (countGenerated p s) = countGenerated p s := by
    cases fuel with
    | zero => rfl
    | succ fuel =>
      unfold countWhile
      split
      · rfl
      · rw [hstop]
        rfl
  have hfuel : dueFuel s.core = (8 * s.core.gen.elapsed + 7) + 1 := rfl
  rw [runGenerator, hfuel, countWhile, hactive]
  dsimp only
  rw [if_pos hdue]
  exact hstopped _

theorem endCatchUp_of_kept {s t : State} (h : t.kept = s.kept) : endCatchUp s t = t := if_pos h

/-- GENERATOR_STEP with one step due (R7). -/
theorem exec_generatorStep_once {p : Plan} {s : State} (hactive : activePlan s = some p) (hdue : stepDue s.core = true)
    (hstop : stepDue (countGenerated p s).core = false) (hkept : (countGenerated p s).kept = s.kept) :
    exec .generatorStep s = .next (transmit (countGenerated p s)) := by
  change execGeneratorStep s = _
  rw [execGeneratorStep, if_pos hdue, runGenerator_once hactive hdue hstop, endCatchUp_of_kept ((transmit_kept _).trans hkept)]

theorem stepDue_of_lt {c : Core} (h : c.gen.elapsed < c.gen.spacing) : stepDue c = false := by
  rw [stepDue, decide_eq_false (Nat.not_le.mpr h), Bool.and_false]

theorem stepDue_of_due {c : Core} (hrunning : c.gen.running = true) (hdue : c.gen.spacing ≤ c.gen.elapsed) : stepDue c = true := by
  rw [stepDue, hrunning, decide_eq_true hdue]
  rfl

theorem mayEmit_of_generating {c : Core} (h : c.state = .master ∨ c.state = .holdover ∨ c.state = .free) (hvalid : c.valid = true) :
    mayEmit c = true := by
  rw [mayEmit, hvalid]
  obtain h | h | h := h <;> rw [h] <;> rfl

theorem countGenerated_of_plain {p : Plan} {s : State} {g : Generator} (helapsed : g.elapsed = s.core.gen.elapsed - s.core.gen.spacing)
    (h : NextInterval p s.core g) (hsteps : s.core.steps + 1 < p.sps) : countGenerated p s = countPlain (setCore { s.core with gen := g } s) := by
  rw [countGenerated, advanceGenerator_eq helapsed h]
  exact if_neg (Nat.not_le.mpr hsteps)

theorem countGenerated_of_sync {p : Plan} {s : State} {g : Generator} (helapsed : g.elapsed = s.core.gen.elapsed - s.core.gen.spacing)
    (h : NextInterval p s.core g) (hsteps : p.sps ≤ s.core.steps + 1) :
    countGenerated p s = takeSync p .generator (setCore { s.core with gen := g } s) := by
  rw [countGenerated, advanceGenerator_eq helapsed h]
  exact if_pos hsteps

/-- Settles O51: one step due, counted plain. -/
theorem generatorStepCountsOnePlainStep : Obligations.GeneratorStepCountsOnePlainStep := by
  intro p bs g s u hactive hstate hvalid hrunning hdue helapsed hnext hstop hsps hsteps hu hset
  have hmay := mayEmit_of_generating hstate hvalid
  have hcompose : composeIfDue s = u := (composeIfDue_of_mayEmit hmay).trans hu.symm
  have hplain : countGenerated p s = { u with
      core := { s.core with time := s.core.time + 1, ticks := 0, steps := s.core.steps + 1, gen := g }
      pulses := s.pulses.map stepPulse
      links := markOnSendLinks { kind := .plain, byte := bs[s.core.steps]? } s.links } := by
    rw [countGenerated_of_plain helapsed hnext hsteps]
    have hset' : (composeIfDue (setCore { s.core with gen := g } s)).outSet = some bs := by rw [composeIfDue_setGen, hcompose]; exact hset
    rw [countPlain_eq (s := setCore { s.core with gen := g } s) hmay hset' (by change s.core.steps < 4294967295; omega), composeIfDue_setGen, hcompose]
    rfl
  have hkept : u.kept = s.kept := by
    rw [← hcompose, composeIfDue_frame]
  rw [exec_generatorStep_once hactive (stepDue_of_due hrunning hdue), hplain]
  · rw [hplain]
    exact stepDue_of_lt hstop
  · rw [hplain]
    exact hkept

/-! ## A sync (R14) -/

theorem correct_record (p : Plan) (cause : SyncCause) (s : State) : (correct p cause s).core.record = s.core.record := by
  unfold correct
  split
  · rfl
  · split
    · unfold join
      dsimp only
      split <;> rfl
    · rfl
  · split
    · unfold realign
      split
      · rfl
      · dsimp only
        split <;> rfl
    · split
      · unfold timeCheck
        split
        · rfl
        · split <;> rfl
      · rfl

theorem expireHoldover_record (p : Plan) (s : State) : (expireHoldover p s).core.record = s.core.record := by
  unfold expireHoldover
  split
  · exact (movesOnly_enterGenerating p .free s.core).record
  · rfl

theorem boundary_record (p : Plan) (s : State) : (boundary p s).core.record = s.core.record := by
  unfold boundary
  dsimp only
  split
  · exact expireHoldover_record p _
  · rfl

/-- The stages of a sync in their order (R14). -/
theorem takeSync_eq (p : Plan) (cause : SyncCause) {s w f e r : State} (hw : w = correct p cause (beginSync (composeIfDue s)))
    (hf : f = fire w.core.time s.core.record p.sps (boundary p w))
    (he : e = reportJoin cause s.core.state (s.core.time + 1) w.core.time (emit { kind := syncKind s.core, byte := none } (recordFinal f)))
    (hr : r = failoverController e.core.state e) : takeSync p cause s = { r with core := { r.core with syncWork := none } } := by
  have hrecord : (boundary p w).core.record = s.core.record := by
    rw [boundary_record, hw, correct_record]
    change (composeIfDue s).core.record = _
    rw [composeIfDue_core]
  have hreached : (beginSync (composeIfDue s)).core.time = s.core.time + 1 := by
    change (composeIfDue s).core.time + 1 = _
    rw [composeIfDue_core]
  unfold takeSync
  dsimp only
  rw [hreached, composeIfDue_core, ← hw, hrecord, ← hf, ← he, ← hr]
  rfl

/-- Stage d in HOLDOVER and outside it, of a core whose generator runs (R9, R14 d). -/
theorem boundary_of_running {p : Plan} {s : State} {count : Nat} {expired : Bool} (hwork : s.core.syncWork.isSome) (hrunning : s.core.gen.running = true)
    (hcount : count = if s.core.state = .holdover then min (s.core.holdoverCount + 1) 65535 else s.core.holdoverCount)
    (hexpired : expired = decide (s.core.state = .holdover ∧ p.limit ≠ 0 ∧ p.limit ≤ count)) : boundary p s = { s with
      core := { s.core with
        steps := 0, syncIndex := s.core.syncIndex + 1, holdoverCount := count
        state := if expired then .free else s.core.state, grade := if expired then 4 else s.core.grade }
      notices := if expired then raised (.time .free .holdover s.sel.source 4 s.core.hops none (s.core.syncIndex + 1) 1)
          (raised (.fault [(.holdoverExpired, 1)]) s.notices) else s.notices } := by
  unfold boundary
  dsimp only
  by_cases hholdover : s.core.state = .holdover
  · rw [if_pos hholdover] at hcount ⊢
    subst hcount
    by_cases hlimit : p.limit ≠ 0 ∧ p.limit ≤ min (s.core.holdoverCount + 1) 65535
    · rw [decide_eq_true ⟨hholdover, hlimit⟩] at hexpired
      subst hexpired
      have hreached : limitReached p { s.core with
          steps := 0, syncIndex := s.core.syncIndex + 1, holdoverCount := min (s.core.holdoverCount + 1) 65535 } = true :=
        limitReached_iff.mpr ⟨hholdover, hwork, hlimit⟩
      exact (expireHoldover_of_limit (s := setCore _ s) hreached hrunning).trans rfl
    · rw [decide_eq_false (fun h => hlimit h.2)] at hexpired
      subst hexpired
      exact if_neg fun h => hlimit (limitReached_iff.mp h).2.2
  · rw [if_neg hholdover] at hcount ⊢
    subst hcount
    rw [decide_eq_false (fun h => hholdover h.1)] at hexpired
    subst hexpired
    rfl

/-- GENERATOR_STEP with one step due that is a sync, stage by stage. -/
theorem exec_generatorStep_sync {p : Plan} {g : Generator} {count : Nat} {expired : Bool} {s u w f e r : State} (hactive : activePlan s = some p)
    (hstate : s.core.state = .master ∨ s.core.state = .holdover ∨ s.core.state = .free) (hvalid : s.core.valid = true)
    (hrunning : s.core.gen.running = true) (hdue : s.core.gen.spacing ≤ s.core.gen.elapsed) (helapsed : g.elapsed = s.core.gen.elapsed - s.core.gen.spacing)
    (hnext : NextInterval p s.core g) (hstop : g.elapsed < g.spacing) (hsteps : p.sps ≤ s.core.steps + 1)
    (hu : u = if s.outSet = none then compose s else s)
    (hcount : count = if s.core.state = .holdover then min (s.core.holdoverCount + 1) 65535 else s.core.holdoverCount)
    (hexpired : expired = decide (s.core.state = .holdover ∧ p.limit ≠ 0 ∧ p.limit ≤ count))
    (hw : w = { u with
      core := { s.core with
        time := s.core.time + 1, ticks := 0, steps := 0, syncIndex := s.core.syncIndex + 1, syncWork := some (s.core.syncIndex + 1),
        outRealign := if s.core.outRealign = some (s.core.syncIndex + 1) then none else s.core.outRealign,
        holdoverCount := count, state := if expired then .free else s.core.state, grade := if expired then 4 else s.core.grade, gen := g }
      pulses := s.pulses.map stepPulse
      notices := if expired then raised (.time .free .holdover s.sel.source 4 s.core.hops none (s.core.syncIndex + 1) 1)
          (raised (.fault [(.holdoverExpired, 1)]) s.notices) else s.notices })
    (hf : f = fire (s.core.time + 1) s.core.record p.sps w)
    (he : e = { f with
      core := { f.core with record := { final := f.core.time, valid := true } }
      outSet := none
      links := markOnSendLinks
        { kind := if s.core.outRealign = some (s.core.syncIndex + 1) then .syncRealign else .sync, byte := none } f.links })
    (hr : r = failoverController e.core.state e) :
    exec .generatorStep s = .next (transmit { r with core := { r.core with syncWork := none } }) := by
  have hmay := mayEmit_of_generating hstate hvalid
  have hcompose : composeIfDue s = u := (composeIfDue_of_mayEmit hmay).trans hu.symm
  have hframe := composeIfDue_frame s
  have hgen : g.running = true := hnext.1.trans hrunning
  rw [hcompose] at hframe
  have hbegun : ∃ b, b = beginSync (composeIfDue (setCore { s.core with gen := g } s)) ∧ b.core.time = s.core.time + 1 ∧ boundary p b = w := by
    refine ⟨_, rfl, ?_, ?_⟩
    all_goals rw [composeIfDue_setGen, hcompose, hframe]
    · rfl
    · rw [hw, hframe]
      exact boundary_of_running (s := beginSync (setCore { s.core with gen := g } { s with outSet := u.outSet, sched := u.sched })) rfl hgen hcount hexpired
  obtain ⟨b, hb, htime, hboundary⟩ := hbegun
  have hfires := fires_fire (s.core.time + 1) s.core.record p.sps w
  rw [← hf] at hfires
  have hfmay : mayEmit f.core = true := by
    obtain ⟨v, x, held, q, c, n, hf⟩ := hfires
    rw [hf, hw]
    refine mayEmit_of_generating ?_ hvalid
    cases expired
    · exact hstate
    · exact .inr (.inr rfl)
  have hfgen : f.core.gen = g := by
    obtain ⟨v, x, held, q, c, n, hf⟩ := hfires
    rw [hf, hw]
  have hsync : countGenerated p s = { r with core := { r.core with syncWork := none } } := by
    rw [countGenerated_of_sync helapsed hnext hsteps]
    refine takeSync_eq p .generator hb (f := f) ?_ (he.trans ?_) hr
    · rw [htime, hboundary]
      exact hf
    · exact (emit_of_mayEmit _ (s := recordFinal f) hfmay).symm
  have hrgen : r.core.gen = g := by
    have hegen : e.core.gen = g := by
      rw [he]
      exact hfgen
    rw [hr, genKept_failoverController e.core.state e (by rw [hegen]; exact hgen), hegen]
  have hkept : r.kept = s.kept := by
    obtain ⟨v, x, held, q, c, n, hf⟩ := hfires
    rw [hr, (switches_failoverController e.core.state e).kept, he, hf, hw, hframe]
  rw [exec_generatorStep_once hactive (stepDue_of_due hrunning hdue), hsync]
  · rw [hsync]
    exact stepDue_of_lt (by dsimp only; rw [hrgen]; exact hstop)
  · rw [hsync]
    exact hkept

/-- Settles O52: the stages in their order, then the generator's sync with and without work for the later stages. -/
theorem generatorStepTakesTheSync : Obligations.GeneratorStepTakesTheSync := by
  refine ⟨fun p g count expired s u w f e r hactive hstate hvalid hrunning hdue helapsed hnext hstop hsteps hu hcount hexpired hw hf he hr => ?sync,
    fun p bs g count expired s hactive hstate hstill hvalid hrunning hdue helapsed hnext hstop hsteps hset hnone hheld hwork hcount hexpired => ?quiet,
    fun p cause s b w f e r hb hw hf he hr => ?stages⟩
  case stages =>
    subst hb
    exact takeSync_eq p cause hw hf he hr
  case sync => exact exec_generatorStep_sync hactive hstate hvalid hrunning hdue helapsed hnext hstop hsteps hu hcount hexpired hw hf he hr
  case quiet =>
    dsimp only
    rw [hwork]
    have hu : s = if s.outSet = none then compose s else s := by rw [if_neg (by rw [hset]; nofun)]
    obtain ⟨w, hw⟩ : ∃ w : State, w = { s with
      core := { s.core with
        time := s.core.time + 1, ticks := 0, steps := 0, syncIndex := s.core.syncIndex + 1, syncWork := some (s.core.syncIndex + 1),
        outRealign := if s.core.outRealign = some (s.core.syncIndex + 1) then none else s.core.outRealign,
        holdoverCount := count, state := if expired then .free else s.core.state, grade := if expired then 4 else s.core.grade, gen := g }
      pulses := s.pulses.map stepPulse
      notices := if expired then raised (.time .free .holdover s.sel.source 4 s.core.hops none (s.core.syncIndex + 1) 1)
          (raised (.fault [(.holdoverExpired, 1)]) s.notices) else s.notices } := ⟨_, rfl⟩
    have hfire : fire (s.core.time + 1) s.core.record p.sps w = w := fire_of_none _ _ (by rw [hw]; exact hnone) (by rw [hw])
    refine (exec_generatorStep_sync hactive hstate hvalid hrunning hdue helapsed hnext hstop hsteps hu hcount hexpired hw hfire.symm rfl
      (failoverController_of_still (p := p) ?plan ?held ?still).symm).trans ?_
    all_goals rw [hw]
    · exact hactive
    · exact hheld
    · refine hstill.elim (fun hmaster => .inl ?_) fun h => h.imp (fun hrole hconsidered => hrole hconsidered.1) id
      have hnot : expired = false := by rw [hexpired, hmaster]; rfl
      subst hnot
      rintro ⟨-, h⟩
      change s.core.state = .holdover ∨ s.core.state = .free at h
      rw [hmaster] at h
      obtain h | h := h <;> cases h

end Sys2Proof.Machine
end

section
/-! SUPPORT. What a qualifier's change leaves of the part while the selection stays (R53, R66 to R72, R174), each outcome of a verdict (R45, R47, R48, R50), and the order of a mark's work (R25, R53). -/

namespace Sys2Proof.Machine

/-! ## When a selection stays -/

section
variable {p : Plan} {s t : State} {l : LinkNo}

theorem usable_congr (hdir : (link l t).dir = (link l s).dir) (hqual : (link l t).qual.state = (link l s).qual.state)
    (hlatest : latestQuality (link l t).rx = latestQuality (link l s).rx) (hsel : t.sel.source = s.sel.source) : usable p t l = usable p s l := by
  simp only [usable, hdir, hqual, hlatest, hsel]

theorem usable_of_unfit (hvalid : (link l s).qual.state ≠ .valid) (hsuspect : (link l s).qual.state ≠ .suspect ∨ s.sel.source ≠ some l) :
    usable p s l = false := by
  refine Bool.eq_false_of_not_eq_true fun h => ?_
  obtain ⟨-, -, hv | ⟨hs, hsource⟩, -, -⟩ := (usable_iff p s l).mp h
  · exact hvalid hv
  · exact hsuspect.elim (· hs) (· hsource)

theorem choose_congr (h : ∀ l, usable p t l = usable p s l) (hsel : t.sel.source = s.sel.source) : choose p t = choose p s := by
  simp only [choose, hsel, show usable p t = usable p s from funext h]

theorem find?_of_lost {f g : LinkNo → Bool} (hother : ∀ m, m ≠ l → g m = f m) (hlost : g l = false) (ls : List LinkNo) (hno : ls.find? f ≠ some l) :
    ls.find? g = ls.find? f := by
  induction ls with
  | nil => rfl
  | cons m ms ih =>
    have hkeep (hf : f m = false) (hg : g m = false) : (m :: ms).find? g = (m :: ms).find? f := by
      have hf' : (m :: ms).find? f = ms.find? f := List.find?_cons_of_neg (by rw [hf]; decide)
      have hg' : (m :: ms).find? g = ms.find? g := List.find?_cons_of_neg (by rw [hg]; decide)
      rw [hf'] at hno
      rw [hf', hg', ih hno]
    by_cases hm : m = l
    · subst hm
      cases hf : f m with
      | true => exact absurd (List.find?_cons_of_pos hf) hno
      | false => exact hkeep hf hlost
    · cases hf : f m with
      | true => rw [List.find?_cons_of_pos hf, List.find?_cons_of_pos ((hother m hm).trans hf)]
      | false => exact hkeep hf ((hother m hm).trans hf)

/-- A link that was not chosen and is now not usable leaves the outcome of a re-evaluation (R69, R70). -/
theorem choose_of_lost (hother : ∀ m, m ≠ l → usable p t m = usable p s m) (hlost : usable p t l = false) (hsel : t.sel.source = s.sel.source)
    (hno : choose p s ≠ some l) : choose p t = choose p s := by
  have hfind (h : p.cands.find? (usable p s) ≠ some l) : p.cands.find? (usable p t) = p.cands.find? (usable p s) :=
    find?_of_lost hother hlost p.cands h
  cases hrevertive : p.revertive with
  | true =>
    rw [choose_of_revertive hrevertive] at hno
    rw [choose_of_revertive hrevertive, choose_of_revertive hrevertive, hfind hno]
  | false =>
    by_cases hkeeps : ∃ m, s.sel.source = some m ∧ usable p s m = true
    · obtain ⟨m, hsource, husable⟩ := hkeeps
      have hs := choose_of_usable_source hrevertive hsource husable
      have hm : m ≠ l := by
        rintro rfl
        exact hno hs
      rw [hs, choose_of_usable_source hrevertive (hsel.trans hsource) ((hother m hm).trans husable)]
    · have hsLost (m : LinkNo) (hm : s.sel.source = some m) : usable p s m = false :=
        Bool.eq_false_of_not_eq_true fun h => hkeeps ⟨m, hm, h⟩
      have htLost (m : LinkNo) (hm : t.sel.source = some m) : usable p t m = false := by
        by_cases heq : m = l
        · rw [heq]
          exact hlost
        · rw [hother m heq]
          exact hsLost m (hsel.symm.trans hm)
      rw [choose_of_no_usable_source hrevertive hsLost] at hno
      rw [choose_of_no_usable_source hrevertive hsLost, choose_of_no_usable_source hrevertive htLost, hfind hno]

theorem choose_setLink_congr {a b : LinkUnit} (h : usable p (setLink l a s) l = usable p (setLink l b s) l) :
    choose p (setLink l a s) = choose p (setLink l b s) := by
  refine choose_congr (fun m => ?_) rfl
  by_cases hm : m = l
  · rw [hm, h]
  · have hlinks : link m (setLink l a s) = link m (setLink l b s) := by rw [link_setLink_ne _ _ hm, link_setLink_ne _ _ hm]
    exact usable_congr (by rw [hlinks]) (by rw [hlinks]) (by rw [hlinks]) rfl

/-- A link written as one that can not be used: the same outcome whatever else the write holds. -/
theorem choose_setLink_unfit {a b : LinkUnit} (ha : a.qual.state ≠ .valid ∧ (a.qual.state ≠ .suspect ∨ s.sel.source ≠ some l))
    (hb : b.qual.state ≠ .valid ∧ (b.qual.state ≠ .suspect ∨ s.sel.source ≠ some l)) : choose p (setLink l a s) = choose p (setLink l b s) := by
  have hunfit {a : LinkUnit} (ha : a.qual.state ≠ .valid ∧ (a.qual.state ≠ .suspect ∨ s.sel.source ≠ some l)) : usable p (setLink l a s) l = false :=
    usable_of_unfit (by rw [link_setLink_self]; exact ha.1) (by rw [link_setLink_self]; exact ha.2)
  exact choose_setLink_congr ((hunfit ha).trans (hunfit hb).symm)

/-- A link that is not chosen, written as one that can not be used. -/
theorem choose_setLink_of_lost {a : LinkUnit} (ha : a.qual.state ≠ .valid ∧ (a.qual.state ≠ .suspect ∨ s.sel.source ≠ some l))
    (hno : choose p s ≠ some l) : choose p (setLink l a s) = choose p s := by
  refine choose_of_lost (l := l) (fun m hm => ?_) ?_ rfl hno
  · have hlinks := link_setLink_ne a s hm
    exact usable_congr (by rw [hlinks]) (by rw [hlinks]) (by rw [hlinks]) rfl
  · exact usable_of_unfit (by rw [link_setLink_self]; exact ha.1) (by rw [link_setLink_self]; exact ha.2)

end

/-! ## A qualifier's change (R53, R174) -/

/-- A link as its qualifier's change leaves it: the records are cleared on entry to FAILED or SEEK (R174). -/
def withQual (q : Qualifier) (u : LinkUnit) : LinkUnit :=
  { u with qual := q, rx := if q.state = .failed ∨ q.state = .seek then clearRecords u.rx else u.rx }

/-- One link written, and the notice unit with what was raised. -/
def writeLink (l : LinkNo) (u : LinkUnit) (n : NoticeUnit) (s : State) : State := { setLink l u s with notices := n }

section
variable {l : LinkNo} {u v : LinkUnit} {n m : NoticeUnit} {s : State}

@[simp] theorem link_writeLink_self : link l (writeLink l u n s) = u := link_setLink_self l u s
@[simp] theorem writeLink_notices : (writeLink l u n s).notices = n := rfl
@[simp] theorem writeLink_core : (writeLink l u n s).core = s.core := rfl
@[simp] theorem writeLink_sel : (writeLink l u n s).sel = s.sel := rfl
@[simp] theorem activePlan_writeLink : activePlan (writeLink l u n s) = activePlan s := rfl

theorem setLink_writeLink : setLink l v (writeLink l u n s) = writeLink l v n s := by
  simp only [setLink, writeLink, Per6.set_set]

theorem writeLink_writeLink : writeLink l v m (writeLink l u n s) = writeLink l v m s := by
  simp only [setLink, writeLink, Per6.set_set]

theorem setQual_writeLink (q : Qualifier) : setQual l q (writeLink l u n s) = writeLink l { u with qual := q } n s := by
  rw [setQual, link_writeLink_self, setLink_writeLink]

theorem setRx_writeLink (rx : Receiver) : setRx l rx (writeLink l u n s) = writeLink l { u with rx := rx } n s := by
  rw [setRx, link_writeLink_self, setLink_writeLink]

theorem choose_writeLink (p : Plan) : choose p (writeLink l u n s) = choose p (setLink l u s) := rfl

theorem setQual_eq_writeLink (q : Qualifier) : setQual l q s = writeLink l { link l s with qual := q } s.notices s := rfl
theorem raise_writeLink (x : Notice) : raise x (writeLink l u n s) = writeLink l u (raised x n) s := rfl

end

section
variable {p : Plan} {s : State} {l : LinkNo} {q : Qualifier} {cause : LinkCause}

theorem changeQual_eq (hactive : activePlan s = some p) (h : choose p (setQual l q s) = s.sel.source) :
    changeQual l q cause s = writeLink l (withQual q (link l s)) (raised (.link l q.state (link l s).qual.state cause 1) s.notices) s := by
  have hsame : reevaluate (setQual l q s) = setQual l q s := reevaluate_same hactive h
  unfold changeQual withQual
  dsimp only
  rw [hsame, raiseLink, link_setQual_self, setQual_eq_writeLink, raise_writeLink]
  split
  · rw [link_writeLink_self, setRx_writeLink]
  · rfl

/-- A link FAILED, its hold-off running (R50, R174). -/
def failedLink (q : Qualifier) (u : LinkUnit) : LinkUnit := { u with qual := failQual u.holdoff q, rx := clearRecords u.rx }

theorem failLink_of_holdoff (hactive : activePlan s = some p) (h : choose p (setLink l (failedLink q (link l s)) s) = s.sel.source)
    (hholdoff : (link l s).holdoff ≠ 0) :
    failLink l q cause s = writeLink l (failedLink q (link l s)) (raised (.link l .failed (link l s).qual.state cause 1) s.notices) s := by
  have hqual : choose p (setQual l (failQual (link l s).holdoff q) s) = s.sel.source :=
    (choose_setLink_unfit (a := { link l s with qual := failQual (link l s).holdoff q }) (b := failedLink q (link l s)) ⟨nofun, .inl nofun⟩
      ⟨nofun, .inl nofun⟩).trans h
  unfold failLink
  dsimp only
  rw [changeQual_eq hactive hqual]
  exact if_neg (by rw [link_writeLink_self]; exact hholdoff)

/-- With no hold-off, SEEK is the next change of the same event (R50). -/
theorem failLink_of_no_holdoff (hactive : activePlan s = some p) (h : choose p (setLink l (failedLink q (link l s)) s) = s.sel.source)
    (hholdoff : (link l s).holdoff = 0) : failLink l q cause s =
    writeLink l { failedLink q (link l s) with qual := seekQual (failedLink q (link l s)).qual }
      (raised (.link l .seek .failed .holdoffDone 1) (raised (.link l .failed (link l s).qual.state cause 1) s.notices)) s := by
  have hqual : choose p (setQual l (failQual (link l s).holdoff q) s) = s.sel.source :=
    (choose_setLink_unfit (a := { link l s with qual := failQual (link l s).holdoff q }) (b := failedLink q (link l s)) ⟨nofun, .inl nofun⟩
      ⟨nofun, .inl nofun⟩).trans h
  have hfailed : withQual (failQual (link l s).holdoff q) (link l s) = failedLink q (link l s) := rfl
  unfold failLink
  dsimp only
  rw [changeQual_eq hactive hqual, hfailed, link_writeLink_self]
  refine (if_pos hholdoff).trans ((changeQual_eq (p := p)
    (s := writeLink l (failedLink q (link l s)) (raised (.link l .failed (link l s).qual.state cause 1) s.notices) s) hactive ?_).trans ?_)
  · rw [setQual_writeLink, choose_writeLink]
    refine (choose_setLink_unfit ?_ ?_).trans h
    all_goals exact ⟨nofun, .inl nofun⟩
  · rw [link_writeLink_self, writeLink_writeLink]
    rfl

end

/-! ## Verdicts (R45, R47, R48) -/

/-- The measured qualifier's move by a verdict. -/
def actOn (p : Plan) (l : LinkNo) (v : Verdict) (m : Qualifier) (s : State) : State :=
  match v with
  | .good => onGood p l m s
  | .bad cause => onBad p l cause m s

/-- The outcomes of a verdict on a measured qualifier `m` of a link `u`: the link, and the notice unit told. -/
inductive VerdictMoves (p : Plan) (l : LinkNo) (u : LinkUnit) (m : Qualifier) (n : NoticeUnit) : Verdict → LinkUnit → NoticeUnit → Prop
  | keeps (hstate : m.state = .valid) : VerdictMoves p l u m n .good { u with qual := m } n
  | enters (hstate : m.state = .qualifying ∨ m.state = .suspect) (hcount : p.validity ≤ min (m.good + 1) 255)
      (hphase : m.state = .qualifying → m.phase.isSome) :
      VerdictMoves p l u m n .good { u with qual := { m with state := .valid, bad := 0, good := min (m.good + 1) 255 } }
        (raised (.link l .valid m.state .goodCount 1) n)
  | counts (hstate : m.state = .qualifying ∨ m.state = .suspect) (hcount : min (m.good + 1) 255 < p.validity ∨ (m.state = .qualifying ∧ m.phase = none)) :
      VerdictMoves p l u m n .good { u with qual := { m with good := min (m.good + 1) 255 } } n
  | suspects {cause : LinkCause} (hstate : m.state = .valid) :
      VerdictMoves p l u m n (.bad cause) { u with qual := { m with state := .suspect, bad := 1, good := 0 } } (raised (.link l .suspect .valid cause 1) n)
  | clears {cause : LinkCause} (hstate : m.state = .qualifying) : VerdictMoves p l u m n (.bad cause) { u with qual := { m with good := 0 } } n
  | endures {cause : LinkCause} (hstate : m.state = .suspect) (hgrace : m.bad + 1 ≤ p.grace) :
      VerdictMoves p l u m n (.bad cause) { u with qual := { m with bad := m.bad + 1, good := 0 } } n
  | fails {cause : LinkCause} (hstate : m.state = .suspect) (hgrace : p.grace < m.bad + 1) (hholdoff : u.holdoff ≠ 0) :
      VerdictMoves p l u m n (.bad cause) (failedLink { m with bad := m.bad + 1, good := 0 } u) (raised (.link l .failed .suspect cause 1) n)
  | restarts {cause : LinkCause} (hstate : m.state = .suspect) (hgrace : p.grace < m.bad + 1) (hholdoff : u.holdoff = 0) :
      VerdictMoves p l u m n (.bad cause)
        { failedLink { m with bad := m.bad + 1, good := 0 } u with qual := seekQual (failedLink { m with bad := m.bad + 1, good := 0 } u).qual }
        (raised (.link l .seek .failed .holdoffDone 1) (raised (.link l .failed .suspect cause 1) n))

section
variable {p : Plan} {l : LinkNo} {m : Qualifier} {s : State}

theorem onGood_of_enters (hstate : m.state = .qualifying ∨ m.state = .suspect) (hcount : p.validity ≤ min (m.good + 1) 255)
    (hphase : m.state = .qualifying → m.phase.isSome) :
    onGood p l m s = changeQual l { m with state := .valid, bad := 0, good := min (m.good + 1) 255 } .goodCount s := by
  unfold onGood
  obtain h | h := hstate <;> rw [h]
  · exact if_pos ⟨hcount, hphase h⟩
  · exact if_pos hcount

theorem onGood_of_counts (hstate : m.state = .qualifying ∨ m.state = .suspect)
    (hcount : min (m.good + 1) 255 < p.validity ∨ (m.state = .qualifying ∧ m.phase = none)) :
    onGood p l m s = setQual l { m with good := min (m.good + 1) 255 } s := by
  obtain ⟨state, good, bad, phase, _⟩ := m
  obtain h | h := hstate <;> cases h
  · refine if_neg fun h : p.validity ≤ min (good + 1) 255 ∧ phase.isSome = true => ?_
    obtain hlt | ⟨-, hnone⟩ := hcount
    · exact Nat.not_le.mpr hlt h.1
    · cases hnone
      cases h.2
  · exact if_neg (Nat.not_le.mpr (hcount.resolve_right nofun))

theorem onBad_of_suspect {cause : LinkCause} (hstate : m.state = .suspect) : onBad p l cause m s =
    if p.grace < m.bad + 1 then failLink l { m with bad := m.bad + 1, good := 0 } cause s else setQual l { m with bad := m.bad + 1, good := 0 } s := by
  rw [onBad, hstate]

/-- A verdict's outcome, where a change of the qualifier leaves the selection as it is. -/
theorem actOn_eq {v : Verdict} {u w : LinkUnit} {n : NoticeUnit} (hactive : activePlan s = some p) (hu : link l s = u) (hstate : u.qual.state = m.state)
    (h : VerdictMoves p l u m s.notices v w n) (hchoose : w.qual.state ≠ m.state → choose p (setLink l w s) = s.sel.source) :
    actOn p l v m s = writeLink l w n s := by
  subst hu
  cases h with
  | keeps hvalid =>
    change onGood p l m s = _
    rw [onGood, hvalid]
    rfl
  | enters hbefore hcount hphase =>
    have hmoved : QualState.valid ≠ m.state := by obtain h | h := hbefore <;> rw [h] <;> decide
    refine (onGood_of_enters hbefore hcount hphase).trans ((changeQual_eq hactive (hchoose hmoved)).trans ?_)
    rw [hstate]
    rfl
  | counts hbefore hcount => exact onGood_of_counts hbefore hcount
  | suspects hvalid =>
    have hmoved : QualState.suspect ≠ m.state := by rw [hvalid]; decide
    change onBad p l _ m s = _
    rw [onBad, hvalid]
    refine (changeQual_eq hactive (hchoose hmoved)).trans ?_
    rw [hstate, hvalid]
    rfl
  | clears hqualifying =>
    change onBad p l _ m s = _
    rw [onBad, hqualifying]
    rfl
  | endures hsuspect hgrace => exact (onBad_of_suspect hsuspect).trans (if_neg (Nat.not_lt.mpr hgrace))
  | fails hsuspect hgrace hholdoff =>
    have hmoved : QualState.failed ≠ m.state := by rw [hsuspect]; decide
    refine (onBad_of_suspect hsuspect).trans ((if_pos hgrace).trans ((failLink_of_holdoff hactive (hchoose hmoved) hholdoff).trans ?_))
    rw [hstate, hsuspect]
  | restarts hsuspect hgrace hholdoff =>
    have hmoved : QualState.seek ≠ m.state := by rw [hsuspect]; decide
    have hfailed : choose p (setLink l (failedLink { m with bad := m.bad + 1, good := 0 } (link l s)) s) = s.sel.source := by
      refine (choose_setLink_unfit ?_ ?_).trans (hchoose hmoved)
      all_goals exact ⟨nofun, .inl nofun⟩
    refine (onBad_of_suspect hsuspect).trans ((if_pos hgrace).trans ((failLink_of_no_holdoff hactive hfailed hholdoff).trans ?_))
    rw [hstate, hsuspect]

end

/-! ## The judgement of a mark (R42 to R45) -/

/-- What the judgement of a mark finds: whether its step is bad, whether it is a sync fault, and the qualifier measured. -/
structure Judged (p : Plan) (k : MarkKind) (q : Qualifier) (bad fault : Bool) (m : Qualifier) : Prop where
  step : goodStep p q.sinceMark = !bad
  fault : syncFault k q = fault
  measured : measure p k q = m

theorem goodStep_iff {p : Plan} {q : Qualifier} : goodStep p q.sinceMark = true ↔ IntervalIsGood p q := by
  simp [goodStep, IntervalIsGood]

theorem goodStep_of_iff {p : Plan} {q : Qualifier} {bad : Bool} (h : bad = false ↔ IntervalIsGood p q) : goodStep p q.sinceMark = !bad := by
  cases bad with
  | false => exact goodStep_iff.mpr (h.mp rfl)
  | true => exact Bool.eq_false_of_not_eq_true fun hgood => nomatch h.mpr (goodStep_iff.mp hgood)

theorem satSucc_eq (max n : Nat) : satSucc max n = min (n + 1) max := rfl

theorem syncFault_plain_iff {q : Qualifier} : syncFault .plain q = true ↔ PlainMarkIsFault q := by
  unfold syncFault raisedPhase PlainMarkIsFault
  cases q.phase <;> simp [isSync, satSucc_eq, Config.max16]

theorem syncFault_sync_iff {k : MarkKind} {q : Qualifier} (hk : k ≠ .plain) : syncFault k q = true ↔ SyncMarkIsFault q := by
  unfold syncFault raisedPhase SyncMarkIsFault
  cases q.phase <;> simp [isSync, hk, satSucc_eq, Config.max16]

theorem judged_plain {p : Plan} {q : Qualifier} {bad fault : Bool} (hbad : bad = false ↔ IntervalIsGood p q) (hfault : fault = true ↔ PlainMarkIsFault q) :
    Judged p .plain q bad fault (measuredPlain p bad fault q) := by
  have hstep := goodStep_of_iff hbad
  have hsync : syncFault .plain q = fault := Bool.eq_iff_iff.mpr (syncFault_plain_iff.trans hfault.symm)
  refine ⟨hstep, hsync, ?_⟩
  unfold measure measuredPlain
  rw [hstep, hsync]
  cases bad <;> rfl

theorem judged_sync {p : Plan} {k : MarkKind} {q : Qualifier} {bad fault : Bool} (hk : k ≠ .plain) (hbad : bad = false ↔ IntervalIsGood p q)
    (hfault : fault = true ↔ SyncMarkIsFault q) : Judged p k q bad fault (measuredSync p bad fault q) := by
  have hstep := goodStep_of_iff hbad
  have hsync : syncFault k q = fault := Bool.eq_iff_iff.mpr ((syncFault_sync_iff hk).trans hfault.symm)
  have hisSync : isSync k = true := decide_eq_true hk
  refine ⟨hstep, hsync, ?_⟩
  unfold measure measuredSync
  rw [hstep, hsync, hisSync]
  cases bad <;> rfl

/-- The verdict that a judgement comes to (R45). -/
def verdictOf (bad fault : Bool) : Verdict := if bad then .bad .badStep else if fault then .bad .syncFault else .good

theorem qualifyMark_eq {p : Plan} {k : MarkKind} {l : LinkNo} {q m : Qualifier} {bad fault : Bool} {s : State} (hq : (link l s).qual = q)
    (hstate : q.state = .qualifying ∨ q.state = .valid ∨ q.state = .suspect) (h : Judged p k q bad fault m) :
    qualifyMark p l k s = actOn p l (verdictOf bad fault) m s := by
  obtain ⟨hstep, hfault, hm⟩ := h
  have hverdict : verdict (!bad) fault = verdictOf bad fault := by cases bad <;> rfl
  unfold qualifyMark
  dsimp only
  rw [hq, hstep, hfault, hm, hverdict]
  obtain h | h | h := hstate <;> rw [h] <;> rfl

end Sys2Proof.Machine
end

section
/-! SUPPORT. The order of a mark's work on its link and in the core (R25, R53), and the marks of a link that is not the selected source (R42 to R50). -/

namespace Sys2Proof.Machine

/-! ## The order of a mark's work (R25) -/

theorem generatorStarted_of_still {b s : State} (h : s.core.gen.running = b.core.gen.running) : generatorStarted b s = false := by
  rw [generatorStarted, h, Bool.not_and_self]

theorem catchUp_of_still {between : Bool} {b s : State} (h : s.core.gen.running = b.core.gen.running) : catchUp between b s = s :=
  if_neg (by rw [generatorStarted_of_still h]; decide)

section
variable {p : Plan} {l : LinkNo} {k : MarkKind} {b : Option Byte} {s s1 w t : State}

/-- A mark on a RECEIVE link whose qualifier's work starts no generator: the interval closed, the qualifier, the core, the receiver, and the catch-up. -/
theorem exec_linkMark_eq (hactive : activePlan s = some p) (hdir : (link l s).dir = .receive) (hs1 : (if isSync k then closeInterval l b s else s) = s1)
    (hw : qualifyMark p l k s1 = w) (hplan : activePlan w = some p) (hstill : w.core.gen.running = s1.core.gen.running)
    (ht : coreMark p l k (handedMeasure p (link l s).qual) w = t) :
    exec (.linkMark l k b) s = .next (endCatchUp s (transmit (catchUp false s1 (finishMark l k b t)))) := by
  have hbehind : catchesUpFirst s1 w = false := by rw [catchesUpFirst, generatorStarted_of_still hstill, Bool.false_and]
  have hpassed : catchUpPassed s1 w = w := if_neg (by rw [hbehind]; decide)
  have hreceive : receiveMark p l k b s = catchUp false s1 (finishMark l k b t) := by
    unfold receiveMark
    dsimp only
    rw [hs1, hw, hpassed, hplan, hbehind]
    dsimp only
    rw [if_neg (fun h => nomatch h.1), ht]
  change execLinkMark l k b s = _
  rw [execLinkMark, hactive]
  dsimp only
  rw [if_pos hdir, hreceive]

theorem coreMark_of_other {measured : Option (Nat × Bool)} (h : w.sel.source ≠ some l) : coreMark p l k measured w = w := if_pos h

theorem finishMark_plain (hdir : (link l t).dir = .receive) : finishMark l .plain b t = match b with
    | some byte => assemble l byte t
    | none => t := by
  cases b <;> exact if_neg (not_not_intro hdir)

theorem finishMark_sync (hk : k ≠ .plain) (hdir : (link l t).dir = .receive) : finishMark l k b t = rollOver l t := by
  cases k with
  | plain => exact absurd rfl hk
  | _ => cases b <;> exact if_neg (not_not_intro hdir)

/-- A plain mark whose work leaves `t`, with no generator started (R25). -/
theorem exec_plainMark_eq (hactive : activePlan s = some p) (hdir : (link l s).dir = .receive) (hw : qualifyMark p l .plain s = w)
    (hplan : activePlan w = some p) (hstill : w.core.gen.running = s.core.gen.running)
    (ht : coreMark p l .plain (handedMeasure p (link l s).qual) w = t) (htdir : (link l t).dir = .receive) (hkept : t.kept = s.kept)
    (hrunning : t.core.gen.running = s.core.gen.running) : exec (.linkMark l .plain b) s = .next (afterByte l b s t) := by
  rw [exec_linkMark_eq (s1 := s) hactive hdir rfl hw hplan hstill ht, finishMark_plain htdir]
  cases b with
  | some byte => rfl
  | none =>
    dsimp only
    rw [catchUp_of_still hrunning, endCatchUp_of_kept ((transmit_kept t).trans hkept)]
    rfl

theorem closeInterval_of_empty (h : (link l s).rx.msg = []) : closeInterval l none s = s := by
  unfold closeInterval
  dsimp only
  rw [if_pos h]
  rfl

theorem isSync_of_ne_plain (hk : k ≠ .plain) : isSync k = true := decide_eq_true hk

/-- A sync mark with no byte, on a link in no message, whose work leaves `t`. -/
theorem exec_syncMark_eq (hactive : activePlan s = some p) (hdir : (link l s).dir = .receive) (hk : k ≠ .plain) (hmsg : (link l s).rx.msg = [])
    (hw : qualifyMark p l k s = w) (hplan : activePlan w = some p) (hstill : w.core.gen.running = s.core.gen.running)
    (ht : coreMark p l k (handedMeasure p (link l s).qual) w = t) :
    exec (.linkMark l k none) s = .next (endCatchUp s (transmit (catchUp false s (finishMark l k none t)))) := by
  refine exec_linkMark_eq hactive hdir ?_ hw hplan hstill ht
  rw [isSync_of_ne_plain hk]
  exact closeInterval_of_empty hmsg

/-! ## An interval's records (R32, R34) -/

theorem updateRx_of_same_latest {rx : Receiver} (h : latestQuality rx = latestQuality (link l s).rx) : updateRx l rx s = setRx l rx s := by
  unfold updateRx
  dsimp only
  rw [h, qualityDiffers, decide_eq_false (not_not_intro rfl)]
  rfl

/-- A roll-over of records that keeps the latest QUALITY: a link in no message, with no QUALITY of the last interval alone. -/
theorem rollOver_eq (hmsg : (link l s).rx.msg = []) (hlatest : (link l s).rx.qualCur = none → (link l s).rx.qualLast = none) :
    rollOver l s = setRx l (rolledOver (link l s).rx) s := by
  have hsame : latestQuality (rolledOver (link l s).rx) = latestQuality (link l s).rx := by
    unfold latestQuality rolledOver
    cases hq : (link l s).rx.qualCur with
    | none => rw [hlatest hq]
    | some q => rfl
  refine Eq.trans ?_ (updateRx_of_same_latest hsame)
  unfold rollOver rolledOver
  dsimp only
  rw [hmsg]

end

/-- The latest QUALITY of records that roll over. -/
theorem latestQuality_rolledOver {rx : Receiver} (h : rx.qualCur = none → rx.qualLast = none) : latestQuality (rolledOver rx) = latestQuality rx := by
  unfold latestQuality rolledOver
  cases hq : rx.qualCur with
  | none => rw [h hq]
  | some q => rfl

/-! ## The marks of a link that is not the selected source -/

theorem VerdictMoves.dir {p : Plan} {l : LinkNo} {u w : LinkUnit} {m : Qualifier} {n n' : NoticeUnit} {v : Verdict} (h : VerdictMoves p l u m n v w n') :
    w.dir = u.dir := by cases h <;> rfl

theorem VerdictMoves.rx {p : Plan} {l : LinkNo} {u w : LinkUnit} {m : Qualifier} {n n' : NoticeUnit} {v : Verdict} (h : VerdictMoves p l u m n v w n') :
    w.rx = u.rx ∨ w.rx = clearRecords u.rx := by
  cases h
  case fails => exact .inr rfl
  case restarts => exact .inr rfl
  all_goals exact .inl rfl

theorem verdictOf_bad {bad fault : Bool} {cause : LinkCause} (h : bad = true ∨ fault = true) (hcause : cause = if bad then .badStep else .syncFault) :
    verdictOf bad fault = .bad cause := by
  subst hcause
  cases bad with
  | true => rfl
  | false => rw [verdictOf, h.resolve_left nofun]; rfl

theorem verdictOf_good {bad fault : Bool} (hbad : bad = false) (hfault : fault = false) : verdictOf bad fault = .good := by
  rw [hbad, hfault]
  rfl

section
variable {p : Plan} {l : LinkNo} {k : MarkKind} {b : Option Byte} {s t : State} {u w : LinkUnit} {m : Qualifier} {bad fault : Bool} {v : Verdict}
  {n : NoticeUnit}

/-- A plain mark's verdict on a link that is not the selected source, where the selection stays. -/
theorem exec_plainMark_of_verdict (hactive : activePlan s = some p) (hu : link l s = u) (hdir : u.dir = .receive) (hother : s.sel.source ≠ some l)
    (hstate : u.qual.state = .qualifying ∨ u.qual.state = .valid ∨ u.qual.state = .suspect) (hm : u.qual.state = m.state)
    (hjudged : Judged p .plain u.qual bad fault m) (hv : verdictOf bad fault = v) (hmoves : VerdictMoves p l u m s.notices v w n)
    (hchoose : choose p t = s.sel.source) (ht : t = writeLink l w n s) : exec (.linkMark l .plain b) s = .next (afterByte l b s t) := by
  subst ht
  have hqualify : qualifyMark p l .plain s = writeLink l w n s := by
    rw [qualifyMark_eq (by rw [hu]) hstate hjudged, hv]
    exact actOn_eq hactive hu hm hmoves fun _ => hchoose
  have hlinkdir : (link l (writeLink l w n s)).dir = .receive := by rw [link_writeLink_self, hmoves.dir, hdir]
  exact exec_plainMark_eq hactive (by rw [hu, hdir]) hqualify hactive rfl (coreMark_of_other hother) hlinkdir rfl rfl

/-- A sync mark's verdict on a link that is not the selected source, where the selection stays. -/
theorem exec_syncMark_of_verdict (hactive : activePlan s = some p) (hk : k ≠ .plain) (hu : link l s = u) (hdir : u.dir = .receive)
    (hother : s.sel.source ≠ some l) (hmsg : u.rx.msg = []) (hlatest : u.rx.qualCur = none → u.rx.qualLast = none)
    (hstate : u.qual.state = .qualifying ∨ u.qual.state = .valid ∨ u.qual.state = .suspect) (hm : u.qual.state = m.state)
    (hjudged : Judged p k u.qual bad fault m) (hv : verdictOf bad fault = v) (hmoves : VerdictMoves p l u m s.notices v w n)
    (hchoose : choose p t = s.sel.source) (ht : t = writeLink l { w with rx := rolledOver w.rx } n s) :
    exec (.linkMark l k none) s = .next (transmit t) := by
  have hwmsg : w.rx.msg = [] := by obtain h | h := hmoves.rx <;> rw [h] <;> exact hmsg
  have hwlatest : w.rx.qualCur = none → w.rx.qualLast = none := by
    obtain h | h := hmoves.rx <;> rw [h]
    · exact hlatest
    · exact fun _ => rfl
  have hchoose' : choose p (setLink l w s) = s.sel.source := by
    rw [ht, choose_writeLink] at hchoose
    refine Eq.trans (choose_setLink_congr (a := w) (b := { w with rx := rolledOver w.rx }) ?_) hchoose
    refine usable_congr (by rw [link_setLink_self, link_setLink_self]) (by rw [link_setLink_self, link_setLink_self]) ?_ rfl
    rw [link_setLink_self, link_setLink_self]
    exact (latestQuality_rolledOver hwlatest).symm
  have hqualify : qualifyMark p l k s = writeLink l w n s := by
    rw [qualifyMark_eq (by rw [hu]) hstate hjudged, hv]
    exact actOn_eq hactive hu hm hmoves fun _ => hchoose'
  have hroll : finishMark l k none (writeLink l w n s) = t := by
    rw [finishMark_sync hk (by rw [link_writeLink_self, hmoves.dir, hdir]), rollOver_eq, link_writeLink_self, setRx_writeLink, ht]
    · rw [link_writeLink_self, hwmsg]
    · rwa [link_writeLink_self]
  rw [exec_syncMark_eq hactive (by rw [hu, hdir]) hk (by rw [hu, hmsg]) hqualify hactive rfl (coreMark_of_other hother), hroll, catchUp_of_still,
    endCatchUp_of_kept]
  all_goals rw [ht]
  · exact transmit_kept _
  · rfl

end

/-! ## The first mark in SEEK (R43, R46) -/

section
variable {p : Plan} {l : LinkNo} {k : MarkKind} {s : State}

/-- A link that is not the selected source, written as one that can not be used: the selection stays. -/
theorem choose_setLink_of_unselected {a : LinkUnit} (ha : a.qual.state ≠ .valid ∧ (a.qual.state ≠ .suspect ∨ s.sel.source ≠ some l))
    (hother : s.sel.source ≠ some l) (hchoose : choose p s = s.sel.source) : choose p (setLink l a s) = s.sel.source :=
  (choose_setLink_of_lost ha (by rwa [hchoose])).trans hchoose

/-- The faults of an interval's close: a message in progress and a byte on the mark, each counted once (R32 a, b). -/
def closeNotices (msg : List Byte) (b : Option Byte) (n : NoticeUnit) : NoticeUnit :=
  (List.replicate ((if msg = [] then 0 else 1) + if b.isSome then 1 else 0) ()).foldl (fun n _ => raised (.fault [(.linkMessage, 1)]) n) n

theorem closeInterval_eq (l : LinkNo) (b : Option Byte) (s : State) : closeInterval l b s =
    writeLink l { link l s with rx := { (link l s).rx with msg := [] } } (closeNotices (link l s).rx.msg b s.notices) s := by
  have hsame (hmsg : (link l s).rx.msg = []) (n : NoticeUnit) :
      writeLink l { link l s with rx := { (link l s).rx with msg := [] } } n s = { s with notices := n } := by
    rw [← hmsg, writeLink, setLink_self]
  unfold closeInterval closeNotices
  by_cases hmsg : (link l s).rx.msg = []
  · dsimp only
    rw [if_pos hmsg, if_pos hmsg, hsame hmsg]
    cases b <;> rfl
  · dsimp only
    rw [if_neg hmsg, if_neg hmsg]
    cases b <;> rfl

theorem coreQuality_of_other (h : s.sel.source ≠ some l) : coreQuality l s = s := if_neg fun hsource => h hsource.2.2

/-- A QUALITY's change on a link that is not the selected source, where the selection stays. -/
theorem updateRx_of_unselected {rx : Receiver} (hactive : activePlan s = some p) (hother : s.sel.source ≠ some l)
    (hchoose : choose p (setRx l rx s) = s.sel.source) : updateRx l rx s = setRx l rx s := by
  have hsame : reevaluate (setRx l rx s) = setRx l rx s := reevaluate_same hactive hchoose
  unfold updateRx qualityChanged
  dsimp only
  rw [hsame, coreQuality_of_other (s := setRx l rx s) hother, ite_self]

/-- The roll-over on a link that can not be used and is not the selected source. -/
theorem rollOver_of_unselected (hactive : activePlan s = some p) (hunfit : (link l s).qual.state ≠ .valid) (hother : s.sel.source ≠ some l)
    (hchoose : choose p s = s.sel.source) :
    rollOver l s = setRx l { rolledOver (link l s).rx with msg := (link l s).rx.msg } s :=
  updateRx_of_unselected (rx := { rolledOver (link l s).rx with msg := (link l s).rx.msg }) hactive hother
    (choose_setLink_of_unselected ⟨hunfit, .inr hother⟩ hother hchoose)

/-- A link that is not the selected source leaves SEEK; the selection stays. -/
theorem qualifyMark_of_seek (hactive : activePlan s = some p) (hseek : (link l s).qual.state = .seek) (hother : s.sel.source ≠ some l)
    (hchoose : choose p s = s.sel.source) : qualifyMark p l k s =
    writeLink l { link l s with qual := leaveSeek p k (link l s).qual } (raised (.link l .qualifying .seek .goodCount 1) s.notices) s := by
  unfold qualifyMark
  dsimp only
  rw [hseek]
  refine (changeQual_eq hactive ?_).trans (by rw [hseek]; rfl)
  exact choose_setLink_of_unselected ⟨nofun, .inl nofun⟩ hother hchoose

/-- The first mark in SEEK is a sync mark: it also sets the phase and takes the SPS (R43). -/
theorem exec_syncMark_of_seek (hactive : activePlan s = some p) (hdir : (link l s).dir = .receive) (hseek : (link l s).qual.state = .seek)
    (hother : s.sel.source ≠ some l) (hchoose : choose p s = s.sel.source) : ∃ u n, exec (.linkMark l .sync none) s = .next (transmit (writeLink l u n s))
      ∧ u.qual.state = .qualifying ∧ u.qual.phase = some 0 ∧ u.qual.intervalSps = some p.sps ∧ u.qual.loss = some (4 * p.nominal) := by
  have hlost (a : LinkUnit) (n : NoticeUnit) (ha : a.qual.state = .seek ∨ a.qual.state = .qualifying) : choose p (writeLink l a n s) = s.sel.source := by
    rw [choose_writeLink]
    refine choose_setLink_of_unselected ?_ hother hchoose
    obtain h | h := ha <;> rw [h] <;> exact ⟨nofun, .inl nofun⟩
  have hclose := closeInterval_eq l none s
  generalize closeNotices (link l s).rx.msg none s.notices = n at hclose
  have hqualify := qualifyMark_of_seek (k := .sync)
    (s := writeLink l { link l s with rx := { (link l s).rx with msg := [] } } n s) hactive (by rw [link_writeLink_self]; exact hseek) hother
    (hlost _ n (.inl hseek))
  rw [link_writeLink_self, writeLink_writeLink] at hqualify
  generalize hv : leaveSeek p .sync _ = q at hqualify
  have hstate : q.state = .qualifying := by rw [← hv]; rfl
  have hexec := exec_linkMark_eq (k := .sync) (b := none) hactive hdir hclose hqualify hactive rfl (coreMark_of_other hother)
  rw [finishMark_sync (k := .sync) nofun (by rw [link_writeLink_self]; exact hdir), rollOver_of_unselected (p := p), setRx_writeLink,
    catchUp_of_still, endCatchUp_of_kept] at hexec
  · refine ⟨_, _, hexec, hstate, ?_, ?_, ?_⟩
    all_goals
      rw [← hv]
      rfl
  · exact transmit_kept _
  · rfl
  · exact hactive
  · rw [link_writeLink_self]
    change q.state ≠ .valid
    rw [hstate]
    decide
  · exact hother
  · exact hlost _ _ (.inr hstate)

end

/-- Settles O42: the first mark in SEEK, then each verdict on a plain and on a sync mark. -/
theorem firstMarkLeavesSeek : Obligations.FirstMarkLeavesSeek := by
  refine ⟨fun l p s hactive hdir hseek hother hchoose => ⟨fun b => ?first, ?sync⟩,
    fun l p b bad fault cause u q m s t hactive hu hq hdir hother hchoose hbad hfault hcause hm => ?plain,
    fun l k p bad fault cause u q m s t hactive hk hu hq hdir hother hchoose hmsg hlatest hbad hfault hcause hm => ?synced⟩
  case first =>
    exact exec_plainMark_eq hactive hdir (qualifyMark_of_seek hactive hseek hother hchoose) hactive rfl (coreMark_of_other hother)
      ((congrArg LinkUnit.dir (link_setLink_self l _ s)).trans hdir) rfl rfl
  case sync =>
    obtain ⟨u, n, hexec, hstate, hphase, hsps, hloss⟩ := exec_syncMark_of_seek hactive hdir hseek hother hchoose
    refine ⟨_, hexec, ?_, ?_, ?_, ?_, transmit_core _⟩
    all_goals rw [link_transmit, link_writeLink_self]
    exacts [hstate, hphase, hsps, hloss]
  case plain =>
    subst hq hm
    have key {v : Verdict} {w : LinkUnit} {n : NoticeUnit} (hstate : u.qual.state = .qualifying ∨ u.qual.state = .valid ∨ u.qual.state = .suspect)
        (hv : verdictOf bad fault = v) (hmoves : VerdictMoves p l u (measuredPlain p bad fault u.qual) s.notices v w n) (ht : t = writeLink l w n s) :
        exec (.linkMark l .plain b) s = .next (afterByte l b s t) :=
      exec_plainMark_of_verdict (m := measuredPlain p bad fault u.qual) hactive hu.symm hdir hother hstate rfl (judged_plain hbad hfault) hv hmoves hchoose ht
    exact ⟨fun h hb hf => key (.inr (.inl h)) (verdictOf_good hb hf) (.keeps h),
      fun h hbf => key (.inr (.inl h)) (verdictOf_bad hbf hcause) (.suspects h),
      fun h hb hf => ⟨fun hcount hphase => key (by tauto) (verdictOf_good hb hf) (.enters h hcount fun hst => by simpa [measuredPlain] using hphase hst),
        fun hcount => key (by tauto) (verdictOf_good hb hf) (.counts h (hcount.imp_right fun hst => ⟨hst.1, by simp [measuredPlain, hst.2]⟩))⟩,
      fun h hbf => key (.inl h) (verdictOf_bad hbf hcause) (.clears h),
      fun h hbf => ⟨fun hgrace => key (.inr (.inr h)) (verdictOf_bad hbf hcause) (.endures h hgrace),
        fun hgrace hholdoff => key (.inr (.inr h)) (verdictOf_bad hbf hcause) (.fails h hgrace hholdoff),
        fun hgrace hholdoff => key (.inr (.inr h)) (verdictOf_bad hbf hcause) (.restarts h hgrace hholdoff)⟩⟩
  case synced =>
    subst hq hm
    have key {v : Verdict} {w : LinkUnit} {n : NoticeUnit} (hstate : u.qual.state = .qualifying ∨ u.qual.state = .valid ∨ u.qual.state = .suspect)
        (hv : verdictOf bad fault = v) (hmoves : VerdictMoves p l u (measuredSync p bad fault u.qual) s.notices v w n)
        (ht : t = writeLink l { w with rx := rolledOver w.rx } n s) : exec (.linkMark l k none) s = .next (transmit t) :=
      exec_syncMark_of_verdict (m := measuredSync p bad fault u.qual) hactive hk hu.symm hdir hother hmsg hlatest hstate rfl (judged_sync hk hbad hfault) hv hmoves hchoose ht
    exact ⟨fun h hb hf => key (.inr (.inl h)) (verdictOf_good hb hf) (.keeps h),
      fun h hbf => key (.inr (.inl h)) (verdictOf_bad hbf hcause) (.suspects h),
      fun h hb hf => ⟨fun hcount => key (by tauto) (verdictOf_good hb hf) (.enters h hcount fun _ => rfl),
        fun hcount => key (by tauto) (verdictOf_good hb hf) (.counts h (.inl hcount))⟩,
      fun h hbf => key (.inl h) (verdictOf_bad hbf hcause) (.clears h),
      fun h hbf => ⟨fun hgrace => key (.inr (.inr h)) (verdictOf_bad hbf hcause) (.endures h hgrace),
        fun hgrace hholdoff => key (.inr (.inr h)) (verdictOf_bad hbf hcause) (.fails h hgrace hholdoff),
        fun hgrace hholdoff => key (.inr (.inr h)) (verdictOf_bad hbf hcause) (.restarts h hgrace hholdoff)⟩⟩

end Sys2Proof.Machine
end

section
/-! SUPPORT. Link messages taken byte by byte (R30 to R34) and the qualifiers' timers (R49, R50). -/

namespace Sys2Proof.Machine

/-! ## Message assembly (R30, R31) -/

section
variable {l : LinkNo} {b type : Byte} {bytes : List Byte} {u : LinkUnit} {s : State}

theorem assemble_of_discard (hu : link l s = u) (hmsg : u.rx.msg = []) (h : u.rx.discard = true) : assemble l b s = s := by
  subst hu
  rw [assemble]
  dsimp only
  rw [hmsg]
  exact if_pos h

theorem assemble_of_unknown (hu : link l s = u) (hmsg : u.rx.msg = []) (h : u.rx.discard = false) (hb : messageLength b = none) :
    assemble l b s = writeLink l { u with rx := { u.rx with discard := true } } (raised (.fault [(.linkMessage, 1)]) s.notices) s := by
  subst hu
  rw [assemble]
  dsimp only
  rw [hmsg]
  dsimp only
  rw [if_neg (by rw [h]; decide), if_neg (by rw [hb]; decide), ← hmsg]
  rfl

theorem assemble_of_type (hu : link l s = u) (hmsg : u.rx.msg = []) (h : u.rx.discard = false) (hb : (messageLength b).isSome) :
    assemble l b s = writeLink l { u with rx := { u.rx with msg := [b] } } s.notices s := by
  subst hu
  rw [assemble]
  dsimp only
  rw [hmsg]
  dsimp only
  rw [if_neg (by rw [h]; decide), if_pos hb]
  rfl

theorem assemble_of_part {n : Nat} (hu : link l s = u) (hmsg : u.rx.msg = type :: bytes) (hlen : messageLength type = some n) (h : bytes.length + 2 < n) :
    assemble l b s = writeLink l { u with rx := { u.rx with msg := u.rx.msg ++ [b] } } s.notices s := by
  subst hu
  have hshort : ¬messageLength type = some (type :: bytes ++ [b]).length := by
    rw [hlen, List.length_append, List.length_cons, List.length_singleton]
    exact fun heq => absurd (Option.some.inj heq) (Nat.ne_of_gt h)
  rw [assemble]
  dsimp only
  rw [hmsg]
  exact if_neg hshort

theorem assemble_of_whole (hu : link l s = u) (hmsg : u.rx.msg = type :: bytes) (hlen : messageLength type = some (bytes.length + 2)) :
    assemble l b s = checkMessage l (type :: bytes ++ [b]) (writeLink l { u with rx := { u.rx with msg := [] } } s.notices s) := by
  subst hu
  rw [assemble]
  dsimp only
  rw [hmsg]
  exact if_pos (by rw [hlen, List.length_append, List.length_cons, List.length_singleton])

theorem assemble_of_message {m : LinkMessage} (hu : link l s = u) (hmsg : u.rx.msg = type :: bytes) (hlen : messageLength type = some (bytes.length + 2))
    (h : messageOf (type :: bytes ++ [b]) = some m) :
    assemble l b s = acceptMessage l m (writeLink l { u with rx := { u.rx with msg := [] } } s.notices s) := by
  rw [assemble_of_whole hu hmsg hlen, checkMessage, h]

theorem assemble_of_refused (hu : link l s = u) (hmsg : u.rx.msg = type :: bytes) (hlen : messageLength type = some (bytes.length + 2))
    (h : crc8 (type :: bytes) ≠ b ∨ MessageOutOfRange (type :: bytes)) :
    assemble l b s = writeLink l { u with rx := { u.rx with msg := [] } } (raised (.fault [(.linkMessage, 1)]) s.notices) s := by
  have hnone : messageOf (type :: bytes ++ [b]) = none := h.elim messageOf_of_bad_crc (messageOf_of_out_of_range hlen)
  rw [assemble_of_whole hu hmsg hlen, checkMessage, hnone]
  rfl

theorem acceptMessage_announce {a : Announce} (hu : link l s = u) (h : u.qual.state ≠ .off) : acceptMessage l (.announce a) s =
    writeLink l { u with rx := { u.rx with annCur := some a }, qual := { u.qual with announceSeen := true } } s.notices s := by
  subst hu
  rw [acceptMessage]
  dsimp only
  rw [decide_eq_true h, Bool.or_true]
  rfl

/-- A QUALITY taken on a link that can not be used and is not the selected source. -/
theorem acceptMessage_quality_of_unselected {p : Plan} {q : Quality} (hactive : activePlan s = some p) (hu : link l s = u) (hunfit : u.qual.state ≠ .valid)
    (hother : s.sel.source ≠ some l) (hchoose : choose p s = s.sel.source) :
    acceptMessage l (.quality q) s = writeLink l { u with rx := { u.rx with qualCur := some q } } s.notices s := by
  subst hu
  exact updateRx_of_unselected hactive hother (choose_setLink_of_unselected ⟨hunfit, .inr hother⟩ hother hchoose)

end

/-- The bytes held when the last byte of a message that was sent comes in. -/
theorem held_of_messageBytes {msg : List Byte} {b : Byte} {m : LinkMessage} (h : msg ++ [b] = messageBytes m) : msg = messageBody m :=
  List.append_inj_left' h rfl

theorem whole_of_announce {msg : List Byte} {b : Byte} {a : Announce} (h : msg ++ [b] = messageBytes (.announce a)) :
    ∃ bytes, msg = 0xA1 :: bytes ∧ messageLength 0xA1 = some (bytes.length + 2) := ⟨_, held_of_messageBytes h, rfl⟩

theorem whole_of_quality {msg : List Byte} {b : Byte} {q : Quality} (h : msg ++ [b] = messageBytes (.quality q)) :
    ∃ bytes, msg = 0xA2 :: bytes ∧ messageLength 0xA2 = some (bytes.length + 2) := ⟨_, held_of_messageBytes h, rfl⟩

/-! ## The marks of a FAILED link (R25, R50) -/

section
variable {p : Plan} {l : LinkNo} {k : MarkKind} {ob : Option Byte} {b : Byte} {s : State} {u : LinkUnit}

theorem qualifyMark_of_failed (h : (link l s).qual.state = .failed) : qualifyMark p l k s = s := by
  rw [qualifyMark, h]

/-- A byte on a FAILED link that is not the selected source is taken into message assembly, and nothing else is done. -/
theorem exec_byte_of_failed {v : LinkUnit} {n : NoticeUnit} (hactive : activePlan s = some p) (hu : link l s = u) (hdir : u.dir = .receive)
    (hfailed : u.qual.state = .failed) (hother : s.sel.source ≠ some l) (h : assemble l b s = writeLink l v n s) :
    exec (.linkMark l .plain (some b)) s = .next (transmit (writeLink l v n s)) := by
  rw [exec_plainMark_eq hactive (by rw [hu, hdir]) (qualifyMark_of_failed (by rw [hu, hfailed])) hactive rfl (coreMark_of_other hother)
    (by rw [hu, hdir]) rfl rfl, afterByte, h, catchUp_of_still (b := s) (s := writeLink l v n s) rfl, endCatchUp_of_kept (s := s) (t := transmit (writeLink l v n s)) (transmit_kept _)]

/-- A sync mark on a FAILED link that is not the selected source closes the interval and rolls its records over. -/
theorem exec_sync_of_failed (hactive : activePlan s = some p) (hu : link l s = u) (hdir : u.dir = .receive) (hk : k ≠ .plain)
    (hfailed : u.qual.state = .failed) (hother : s.sel.source ≠ some l) (hchoose : choose p s = s.sel.source) :
    exec (.linkMark l k ob) s = .next (transmit (writeLink l { u with rx := rolledOver u.rx } (closeNotices u.rx.msg ob s.notices) s)) := by
  have hclose := closeInterval_eq l ob s
  rw [hu] at hclose
  have hunfit : u.qual.state ≠ .valid := by rw [hfailed]; decide
  have hs1 : (if isSync k then closeInterval l ob s else s)
      = writeLink l { u with rx := { u.rx with msg := [] } } (closeNotices u.rx.msg ob s.notices) s := by rw [isSync_of_ne_plain hk, ← hclose]; rfl
  have hexec := exec_linkMark_eq hactive (by rw [hu, hdir]) hs1 (qualifyMark_of_failed (by rw [link_writeLink_self]; exact hfailed)) hactive rfl
    (coreMark_of_other hother)
  have hroll := rollOver_of_unselected (s := writeLink l { u with rx := { u.rx with msg := [] } } (closeNotices u.rx.msg ob s.notices) s) hactive
    (by rw [link_writeLink_self]; exact hunfit) hother (choose_setLink_of_unselected ⟨hunfit, .inr hother⟩ hother hchoose)
  rw [finishMark_sync hk (by rw [link_writeLink_self]; exact hdir), hroll, setRx_writeLink, link_writeLink_self, catchUp_of_still,
    endCatchUp_of_kept] at hexec
  · exact hexec
  · exact (transmit_kept _).trans rfl
  · rfl

end

/-! ## A QUALITY of the joined source (R19, R34) -/

section
variable {p : Plan} {l : LinkNo} {q : Quality} {s t : State}

theorem qualityDiffers_some_iff {a : Option Quality} : qualityDiffers a (some q) = true ↔ gradeAndHops (some q) ≠ gradeAndHops a ∨ a = none := by
  rw [qualityDiffers, decide_eq_true_iff]
  cases a with
  | none => exact ⟨fun _ => .inr rfl, fun _ => nofun⟩
  | some x => exact ⟨fun h => .inl fun heq => h (congrArg some heq.symm), fun h => h.elim (fun hne heq => hne (Option.some.inj heq).symm) nofun⟩

theorem usable_of_choose (h : choose p s = some l) : usable p s l = true := by
  have hfind (h : p.cands.find? (usable p s) = some l) : usable p s l = true := List.find?_some h
  cases hrevertive : p.revertive with
  | true =>
    rw [choose_of_revertive hrevertive] at h
    exact hfind h
  | false =>
    by_cases hkeeps : ∃ m, s.sel.source = some m ∧ usable p s m = true
    · obtain ⟨m, hsource, husable⟩ := hkeeps
      obtain rfl : m = l := Option.some.inj ((choose_of_usable_source hrevertive hsource husable).symm.trans h)
      exact husable
    · rw [choose_of_no_usable_source hrevertive fun m hm => Bool.eq_false_of_not_eq_true fun husable => hkeeps ⟨m, hm, husable⟩] at h
      exact hfind h

/-- A source that a re-evaluation leaves is not chosen again at once (R69, R70). -/
theorem choose_of_left (hsource : s.sel.source = some l) (hsel : t.sel.source = choose p s) (hlinks : ∀ m, link m t = link m s)
    (hleft : choose p s ≠ some l) : choose p t ≠ some l := by
  intro hback
  have husable := (usable_iff p t l).mp (usable_of_choose hback)
  rw [hlinks, hsel] at husable
  obtain ⟨hcand, hdir, hstate, hlimits⟩ := husable
  have hvalid : (link l s).qual.state = .valid := hstate.resolve_right fun h => hleft h.2
  have hl : usable p s l = true := (usable_iff p s l).mpr ⟨hcand, hdir, .inl hvalid, hlimits⟩
  cases hrevertive : p.revertive with
  | false => exact hleft (choose_of_usable_source hrevertive hsource hl)
  | true =>
    have hsame (m : LinkNo) : usable p t m = usable p s m := by
      by_cases hm : (link m s).qual.state = .valid
      · simp [usable, hlinks, hm]
      · have hs : usable p s m = false := by
          refine usable_of_unfit hm (.inr fun heq => hm ?_)
          obtain rfl := Option.some.inj (hsource.symm.trans heq)
          exact hvalid
        have ht : usable p t m = false := by
          refine usable_of_unfit (by rwa [hlinks]) (.inr fun heq => ?_)
          rw [usable_of_choose (hsel.symm.trans heq)] at hs
          cases hs
        rw [hs, ht]
    rw [choose_of_revertive hrevertive, show usable p t = usable p s from funext hsame, ← choose_of_revertive hrevertive] at hback
    exact hleft hback

theorem coreQuality_of_joined (hsel : s.sel = { source := some l, joined := true }) (hstate : s.core.state = .locked)
    (hlatest : latestQuality (link l s).rx = some q) : coreQuality l s = { s with
      core := { s.core with grade := max 1 q.grade, hops := min 15 (q.hops + 1) }
      notices := if (max 1 q.grade, min 15 (q.hops + 1)) = (s.core.grade, s.core.hops) then s.notices
        else raised (.time .locked .locked (some l) (max 1 q.grade) (min 15 (q.hops + 1)) none s.core.syncIndex 1) s.notices } := by
  unfold coreQuality
  rw [if_pos ⟨hstate, by rw [hsel], by rw [hsel]⟩, hlatest]
  dsimp only
  simp only [Prod.mk.injEq]
  by_cases hsame : max 1 q.grade = s.core.grade ∧ min 15 (q.hops + 1) = s.core.hops
  · rw [if_pos hsame]
    exact if_pos hsame
  · have hsource : s.sel.source = some l := by rw [hsel]
    rw [if_neg hsame, ← hstate, ← hsource]
    exact if_neg hsame

/-- A QUALITY of the joined source that tells a change and leaves the source selected. -/
theorem acceptMessage_quality_of_joined (hactive : activePlan s = some p) (hsel : s.sel = { source := some l, joined := true })
    (hstate : s.core.state = .locked) (hdiffers : gradeAndHops (some q) ≠ gradeAndHops (latestQuality (link l s).rx) ∨ latestQuality (link l s).rx = none)
    (hchoose : choose p (acceptMessage l (.quality q) s) = some l) : acceptMessage l (.quality q) s = { s with
      links := s.links.set l { link l s with rx := { (link l s).rx with qualCur := some q } }
      core := { s.core with grade := max 1 q.grade, hops := min 15 (q.hops + 1) }
      notices := if (max 1 q.grade, min 15 (q.hops + 1)) = (s.core.grade, s.core.hops) then s.notices
        else raised (.time .locked .locked (some l) (max 1 q.grade) (min 15 (q.hops + 1)) none s.core.syncIndex 1) s.notices } := by
  have haccept : acceptMessage l (.quality q) s = coreQuality l (reevaluate (setRx l { (link l s).rx with qualCur := some q } s)) := by
    change updateRx l _ s = _
    unfold updateRx
    dsimp only
    exact if_pos (qualityDiffers_some_iff.mpr hdiffers)
  have hlink : link l (setRx l { (link l s).rx with qualCur := some q } s) = { link l s with rx := { (link l s).rx with qualCur := some q } } :=
    link_setRx_self l _ s
  have hsame : choose p (setRx l { (link l s).rx with qualCur := some q } s) = some l := by
    by_contra hleft
    have hchanged := reevaluate_changed (s := setRx l { (link l s).rx with qualCur := some q } s) hactive (by
      change _ ≠ s.sel.source
      rw [hsel]
      exact hleft)
    rw [haccept, hchanged] at hchoose
    have hunjoined : coreQuality l (select p (choose p (setRx l { (link l s).rx with qualCur := some q } s)) (setRx l { (link l s).rx with qualCur := some q } s))
        = select p (choose p (setRx l { (link l s).rx with qualCur := some q } s)) (setRx l { (link l s).rx with qualCur := some q } s) :=
      if_neg fun h => nomatch h.2.1
    rw [hunjoined] at hchoose
    exact choose_of_left (s := setRx l { (link l s).rx with qualCur := some q } s) (congrArg Selection.source hsel) rfl (fun m => link_select m _ _ _) hleft hchoose
  have hstill := reevaluate_same (s := setRx l { (link l s).rx with qualCur := some q } s) hactive (by rw [hsame]; exact (congrArg Selection.source hsel).symm)
  rw [haccept, hstill]
  exact coreQuality_of_joined (s := setRx l { (link l s).rx with qualCur := some q } s) hsel hstate (by rw [hlink]; rfl)

end

/-- Settles O46: the bytes and the sync marks of a FAILED link, message assembly on any link, and a QUALITY of the joined source. -/
theorem wholeMessageIsAcceptedOrCounted : Obligations.WholeMessageIsAcceptedOrCounted := by
  refine ⟨fun l b p u s hactive hu hdir hfailed hother hchoose => ?failed, fun l b u s hu => ?any, fun l p q s t hactive hsel hstate ht => ⟨?same, ?differs⟩⟩
  case failed =>
    have key {v : LinkUnit} {n : NoticeUnit} (h : assemble l b s = writeLink l v n s) :
        exec (.linkMark l .plain (some b)) s = .next (transmit (writeLink l v n s)) := exec_byte_of_failed hactive hu.symm hdir hfailed hother h
    refine ⟨fun a hwhole => key ?announce, fun q hgrade hhops hcore hwhole => key ?quality,
      fun type bytes hmsg hlen h => key (assemble_of_refused hu.symm hmsg hlen h),
      fun type bytes n hmsg hlen h => key (assemble_of_part hu.symm hmsg hlen h),
      fun hmsg => ⟨fun h => ?discard, fun h hb => key (assemble_of_unknown hu.symm hmsg h hb), fun h hb => key (assemble_of_type hu.symm hmsg h hb)⟩,
      fun k ob hk => exec_sync_of_failed hactive hu.symm hdir hk hfailed hother hchoose⟩
    case announce =>
      obtain ⟨bytes, hmsg, hlen⟩ := whole_of_announce hwhole
      rw [assemble_of_message (m := .announce a) hu.symm hmsg hlen (by rw [← hmsg, hwhole]; exact messageOf_messageBytes_announce a),
        acceptMessage_announce link_writeLink_self (by change u.qual.state ≠ .off; rw [hfailed]; decide), writeLink_writeLink]
      rfl
    case quality =>
      obtain ⟨bytes, hmsg, hlen⟩ := whole_of_quality hwhole
      have hunfit : u.qual.state ≠ .valid := by rw [hfailed]; decide
      rw [assemble_of_message (m := .quality q) hu.symm hmsg hlen (by rw [← hmsg, hwhole]; exact messageOf_messageBytes_quality hgrade hhops hcore),
        acceptMessage_quality_of_unselected (p := p) (s := writeLink l { u with rx := { u.rx with msg := [] } } s.notices s) hactive link_writeLink_self
          hunfit hother (choose_setLink_of_unselected ⟨hunfit, .inr hother⟩ hother hchoose), writeLink_writeLink]
      rfl
    case discard =>
      have hsame : assemble l b s = writeLink l u s.notices s := by
        rw [assemble_of_discard hu.symm hmsg h, writeLink, hu, setLink_self]
      have hwritten : writeLink l u s.notices s = s := by rw [writeLink, hu, setLink_self]
      rw [key hsame, hwritten]
  case any =>
    exact ⟨fun type bytes hmsg hlen => ⟨fun m h => assemble_of_message hu.symm hmsg hlen h, fun h => assemble_of_refused hu.symm hmsg hlen h⟩,
      fun type bytes n hmsg hlen h => assemble_of_part hu.symm hmsg hlen h,
      fun hmsg => ⟨fun h => assemble_of_discard hu.symm hmsg h, fun h hb => assemble_of_unknown hu.symm hmsg h hb,
        fun h hb => assemble_of_type hu.symm hmsg h hb⟩,
      fun a h => acceptMessage_announce hu.symm h⟩
  case same =>
    intro hsame hsome
    subst ht
    have hunchanged : qualityDiffers (latestQuality (link l s).rx) (some q) = false :=
      Bool.eq_false_of_not_eq_true fun h => (qualityDiffers_some_iff.mp h).elim (· hsame) hsome
    change updateRx l _ s = _
    unfold updateRx
    dsimp only
    exact if_neg (by rw [show latestQuality { (link l s).rx with qualCur := some q } = some q from rfl, hunchanged]; decide)
  case differs =>
    intro hdiffers hchoose
    subst ht
    exact acceptMessage_quality_of_joined hactive hsel hstate hdiffers hchoose

end Sys2Proof.Machine
end

section
/-! SUPPORT. The qualifiers' timers (R46, R49, R50), and the catch-up of a generator that a loss starts (R7, R12, R115). -/

namespace Sys2Proof.Machine

/-! ## Expiries that leave the selection (R49, R50) -/

section
variable {p : Plan} {l : LinkNo} {s t : State}

/-- A qualifier after its loss was counted (R49 b). -/
def lossCounted (q : Qualifier) : Qualifier := { q with losses := satSucc Config.max16 q.losses }

theorem expireLoss_of_measured (h : (link l s).qual.state = .valid ∨ (link l s).qual.state = .suspect) :
    expireLoss l s = failLink l (lossCounted (link l s).qual) .loss s := by
  rw [expireLoss]
  obtain h | h := h <;> rw [h] <;> rfl

theorem expireLoss_of_qualifying (h : (link l s).qual.state = .qualifying) : expireLoss l s = changeQual l (seekQual (link l s).qual) .loss s := by
  rw [expireLoss]
  rw [h]

theorem exec_lossTimerExpiry_eq (hloss : (link l s).qual.loss = some 0) (ht : expireLoss l s = t) :
    exec (.lossTimerExpiry l) s = .next (endCatchUp s (transmit (catchUp false s t))) := by
  change execLossTimerExpiry l s = _
  rw [execLossTimerExpiry, if_pos hloss, ht]

/-- A link's timer whose expiry writes the link and the notice unit alone. -/
theorem exec_lossTimerExpiry_of_write {u : LinkUnit} {n : NoticeUnit} (hloss : (link l s).qual.loss = some 0) (ht : expireLoss l s = writeLink l u n s) :
    exec (.lossTimerExpiry l) s = .next (transmit (writeLink l u n s)) := by
  rw [exec_lossTimerExpiry_eq hloss ht, catchUp_of_still (b := s) (s := writeLink l u n s) rfl,
    endCatchUp_of_kept (s := s) (t := transmit (writeLink l u n s)) (transmit_kept _)]

theorem exec_holdoffTimerExpiry_of_write {u : LinkUnit} {n : NoticeUnit} (hfailed : (link l s).qual.state = .failed) (hhold : (link l s).qual.hold = some 0)
    (ht : changeQual l (seekQual (link l s).qual) .holdoffDone s = writeLink l u n s) :
    exec (.holdoffTimerExpiry l) s = .next (transmit (writeLink l u n s)) := by
  change execHoldoffTimerExpiry l s = _
  rw [execHoldoffTimerExpiry]
  rw [if_pos ⟨hfailed, hhold⟩, ht, catchUp_of_still (b := s) (s := writeLink l u n s) rfl,
    endCatchUp_of_kept (s := s) (t := transmit (writeLink l u n s)) (transmit_kept _)]

/-- A FAILED link is not the selected source that a re-evaluation leaves. -/
theorem source_ne_of_failed (hfailed : (link l s).qual.state = .failed) (hchoose : choose p s = s.sel.source) : s.sel.source ≠ some l := by
  intro hsource
  obtain h | h := choose_fit (hchoose.trans hsource) <;> rw [hfailed] at h <;> cases h

end

/-! ## The loss of a joined source (R12, R72) -/

/-- A LOCKED follower's core with no valid learned record, left with no source: FREE, its generator started at the nominal interval. -/
def freedCore (p : Plan) (c : Core) : Core :=
  { c with state := .free, grade := 4, gen := { c.gen with running := true, cycle := 0, spacing := p.nominal, fromRecord := false } }

theorem afterSelection_of_lost_follower {p : Plan} {c : Core} (hrole : p.role = .follower) (hlocked : c.state = .locked) (ht : c.takeover = false)
    (hstopped : c.gen.running = false) (hlearned : c.learned.length < 8) : afterSelection p none c = freedCore p c := by
  have halone : aloneState .locked c.learned.length c.holdoverCount = (.free, c.holdoverCount) := by
    simp [aloneState, Nat.ne_of_lt hlearned]
  rw [afterSelection_of_locked hlocked, noSourcePath_alone ht (.inl hrole), carryOn_eq, halone, enteredGenerator_of_stopped hstopped]
  simp [Nat.ne_of_lt hlearned, freedCore]

section
variable {p : Plan} {l : LinkNo} {s : State}

theorem choose_of_all_lost (hno : ∀ m ∈ p.cands, usable p s m = false) : choose p s = none := by
  by_contra hsome
  obtain ⟨l, hl⟩ := Option.ne_none_iff_exists'.mp hsome
  have husable := usable_of_choose hl
  have hcand := ((usable_iff p s l).mp husable).1
  rw [hno l hcand] at husable
  cases husable

/-- A LOCKED follower's core FREE, and nothing selected. -/
def freed (p : Plan) (s : State) : State := { s with core := freedCore p s.core, sel := { source := none, joined := false } }

/-- The joined source FAILED with no other usable one: the core is FREE and nothing is selected. -/
theorem failLink_of_lost_source {q : Qualifier} (hactive : activePlan s = some p) (hrole : p.role = .follower)
    (hsel : s.sel = { source := some l, joined := true }) (hlocked : s.core.state = .locked) (ht : s.core.takeover = false)
    (hstopped : s.core.gen.running = false) (hlearned : s.core.learned.length < 8) (hholdoff : (link l s).holdoff ≠ 0)
    (hothers : ∀ m ∈ p.cands, m ≠ l → usable p s m = false) : failLink l q .loss s =
      writeLink l (failedLink q (link l s)) (raised (.link l .failed (link l s).qual.state .loss 1)
        (raised (.time .free .locked none 4 s.core.hops none s.core.syncIndex 1) s.notices)) (freed p s) := by
  have hnone : choose p (setQual l (failQual (link l s).holdoff q) s) = none := by
    refine choose_of_all_lost fun m hm => ?_
    by_cases heq : m = l
    · rw [heq]
      exact usable_of_unfit (by rw [link_setQual_self]; exact nofun) (.inl (by rw [link_setQual_self]; exact nofun))
    · have hlink : link m (setQual l (failQual (link l s).holdoff q) s) = link m s := by rw [link_setQual, if_neg heq]
      exact (usable_congr (s := s) (t := setQual l (failQual (link l s).holdoff q) s) (by rw [hlink]) (by rw [hlink]) (by rw [hlink]) rfl).trans (hothers m hm heq)
  have hchanged := reevaluate_changed (s := setQual l (failQual (link l s).holdoff q) s) hactive (by
    change _ ≠ s.sel.source
    rw [hnone, hsel]
    exact nofun)
  rw [hnone] at hchanged
  have hcore := afterSelection_of_lost_follower hrole hlocked ht hstopped hlearned
  have hselected : select p none (setQual l (failQual (link l s).holdoff q) s) =
      writeLink l { link l s with qual := failQual (link l s).holdoff q }
        (raised (.time .free .locked none 4 s.core.hops none s.core.syncIndex 1) s.notices) (freed p s) := by
    rw [select]
    change raiseTime s.core.state none { setQual l (failQual (link l s).holdoff q) s with
      sel := { source := none, joined := false }, core := afterSelection p none s.core } = _
    rw [hcore, hlocked]
    rfl
  have hchange : changeQual l (failQual (link l s).holdoff q) .loss s = writeLink l (failedLink q (link l s))
      (raised (.link l .failed (link l s).qual.state .loss 1) (raised (.time .free .locked none 4 s.core.hops none s.core.syncIndex 1) s.notices))
      (freed p s) := by
    unfold changeQual
    dsimp only
    rw [hchanged, hselected, raiseLink, link_writeLink_self, raise_writeLink, link_writeLink_self, setRx_writeLink]
    exact if_pos (.inl rfl)
  unfold failLink
  dsimp only
  rw [hchange]
  refine if_neg ?_
  rw [link_writeLink_self]
  exact hholdoff

end

/-! ## The catch-up (R7, R115) -/

/-- A core that counts at the nominal interval, `i` plain steps on. -/
def coreAfter (p : Plan) (c : Core) (i : Nat) : Core :=
  { c with
    time := c.time + BitVec.ofNat 64 i, steps := c.steps + i, ticks := if i = 0 then c.ticks else 0
    gen := { c.gen with elapsed := c.gen.elapsed - i * p.nominal } }

/-- The cores that an event's caught-up steps pass, after `i` of them: one is kept before every step but the first. -/
def passedAfter (p : Plan) (e : State) (i : Nat) : List Core :=
  if i ≤ 1 then e.passing else (if e.caughtUp.isSome then [] else e.passing) ++ (List.range (i - 1)).map (fun j => coreAfter p e.core (j + 1))

/-- The part `i` caught-up plain steps on. -/
def caughtAfter (p : Plan) (bs : List Byte) (e : State) (i : Nat) : State :=
  { e with
    core := coreAfter p e.core i
    passing := passedAfter p e i
    caughtUp := if i ≤ 1 then e.caughtUp else none
    kept := e.kept + (i - 1)
    links := (List.range i).foldl (fun v j => markOnSendLinks { kind := .plain, byte := bs[e.core.steps + j]? } v) e.links
    pulses := (List.range i).foldl (fun v _ => v.map stepPulse) e.pulses }

/-- A core that generates at the nominal interval, with no learned record to space its steps. -/
structure CountsNominal (p : Plan) (bs : List Byte) (e : State) : Prop where
  active : activePlan e = some p
  state : e.core.state = .free
  valid : e.core.valid = true
  running : e.core.gen.running = true
  spacing : e.core.gen.spacing = p.nominal
  learned : e.core.learned.length < 8
  fromRecord : e.core.gen.fromRecord = false
  set : e.outSet = some bs

section
variable {p : Plan} {bs : List Byte} {e : State} {i n : Nat}

theorem caughtAfter_zero : caughtAfter p bs e 0 = e := by
  have hcore : coreAfter p e.core 0 = e.core := by simp [coreAfter]
  rw [caughtAfter, hcore]
  rfl

/-- The core kept before the next step, if that is not the event's first. -/
def beforeStep (s : State) (i : Nat) : State := if i = 0 then s else keepPassing s

theorem passedAfter_succ (h : i ≠ 0) : passedAfter p e (i + 1) =
    (if (if i ≤ 1 then e.caughtUp else none).isSome then [] else passedAfter p e i) ++ [coreAfter p e.core i] := by
  obtain ⟨j, rfl⟩ := Nat.exists_eq_succ_of_ne_zero h
  unfold passedAfter
  cases j with
  | zero => simp
  | succ j => simp [List.range_succ]

theorem beforeStep_caughtAfter : beforeStep (caughtAfter p bs e i) i = { caughtAfter p bs e i with
    passing := passedAfter p e (i + 1), caughtUp := if i = 0 then e.caughtUp else none, kept := e.kept + i } := by
  unfold beforeStep
  by_cases hi : i = 0
  · subst hi
    rfl
  · rw [if_neg hi, if_neg hi, passedAfter_succ hi]
    have hkept : e.kept + (i - 1) + 1 = e.kept + i := by omega
    rw [← hkept]
    rfl

theorem coreAfter_succ : coreAfter p e.core (i + 1) =
    { coreAfter p e.core i with
      time := (coreAfter p e.core i).time + 1, ticks := 0, steps := (coreAfter p e.core i).steps + 1
      gen := { (coreAfter p e.core i).gen with elapsed := (coreAfter p e.core i).gen.elapsed - p.nominal } } := by
  have htime : e.core.time + BitVec.ofNat 64 (i + 1) = e.core.time + BitVec.ofNat 64 i + 1 := by
    rw [BitVec.ofNat_add, BitVec.add_assoc]
    rfl
  have helapsed : e.core.gen.elapsed - (i + 1) * p.nominal = e.core.gen.elapsed - i * p.nominal - p.nominal := by
    rw [Nat.add_one_mul, Nat.sub_add_eq]
  simp only [coreAfter, htime, helapsed]
  rfl

/-- One plain step at the nominal interval. -/
theorem countGenerated_nominal {x : State} (h : CountsNominal p bs x) (hsteps : x.core.steps + 1 < p.sps) (hsps : p.sps ≤ 8192) :
    countGenerated p x = { x with
      core := { x.core with
        time := x.core.time + 1, ticks := 0, steps := x.core.steps + 1, gen := { x.core.gen with elapsed := x.core.gen.elapsed - p.nominal } }
      pulses := x.pulses.map stepPulse
      links := markOnSendLinks { kind := .plain, byte := bs[x.core.steps]? } x.links } := by
  obtain ⟨hactive, hstate, hvalid, hrunning, hspacing, hlearned, hrecord, hset⟩ := h
  have hnext : NextInterval p x.core { x.core.gen with elapsed := x.core.gen.elapsed - p.nominal } := by
    refine ⟨rfl, by rw [hrecord]; rfl, ?_⟩
    rw [if_neg fun hlong => Nat.ne_of_lt hlearned hlong.2]
    exact Prod.ext hspacing hrecord
  have hmay : mayEmit x.core = true := mayEmit_of_generating (.inr (.inr hstate)) hvalid
  have hcompose (c : Core) : composeIfDue (setCore c x) = setCore c x := composeIfDue_of_not_due (.inl (by rw [setCore_outSet, hset]; rfl))
  rw [countGenerated_of_plain (by rw [hspacing]) hnext hsteps,
    countPlain_eq (bs := bs) (s := setCore { x.core with gen := { x.core.gen with elapsed := x.core.gen.elapsed - p.nominal } } x) hmay
      (by rw [hcompose]; exact hset) (by rw [setCore_core]; change x.core.steps < 4294967295; omega), hcompose]
  rfl

theorem countsNominal_beforeStep (h : CountsNominal p bs e) : CountsNominal p bs (beforeStep (caughtAfter p bs e i) i) := by
  obtain ⟨hactive, hstate, hvalid, hrunning, hspacing, hlearned, hrecord, hset⟩ := h
  rw [beforeStep_caughtAfter]
  exact ⟨hactive, hstate, hvalid, hrunning, hspacing, hlearned, hrecord, hset⟩

theorem caughtAfter_step (h : CountsNominal p bs e) (hsteps : e.core.steps + i + 1 < p.sps) (hsps : p.sps ≤ 8192) :
    countGenerated p (beforeStep (caughtAfter p bs e i) i) = caughtAfter p bs e (i + 1) := by
  have hcore : (beforeStep (caughtAfter p bs e i) i).core = coreAfter p e.core i := by rw [beforeStep_caughtAfter]; rfl
  rw [countGenerated_nominal (countsNominal_beforeStep h) (by rw [hcore]; exact hsteps) hsps, beforeStep_caughtAfter]
  have hnone : (if i = 0 then e.caughtUp else none) = if i + 1 ≤ 1 then e.caughtUp else none := if_congr (by omega) rfl rfl
  unfold caughtAfter
  rw [hnone, List.range_succ, List.foldl_append, List.foldl_append, coreAfter_succ]
  rfl

theorem stepDue_coreAfter (h : CountsNominal p bs e) (hdue : (i + 1) * p.nominal ≤ e.core.gen.elapsed) : stepDue (coreAfter p e.core i) = true := by
  refine stepDue_of_due h.running ?_
  change e.core.gen.spacing ≤ e.core.gen.elapsed - i * p.nominal
  rw [h.spacing]
  rw [Nat.add_one_mul] at hdue
  omega

/-- The generator counts every step that has passed, the cores between them kept (R7, R115). -/
theorem countWhile_caughtAfter (h : CountsNominal p bs e) (hn : n = e.core.gen.elapsed / p.nominal) (hpos : 0 < p.nominal)
    (hsteps : e.core.steps + n < p.sps) (hsps : p.sps ≤ 8192) (k fuel : Nat) (hk : i + k = n) (hfuel : k < fuel) :
    countWhile stepDue fuel (decide (i ≠ 0)) (caughtAfter p bs e i) = caughtAfter p bs e n := by
  have hall : n * p.nominal ≤ e.core.gen.elapsed := hn ▸ Nat.div_mul_le_self _ _
  have hactive (i : Nat) : activePlan (caughtAfter p bs e i) = some p := h.active
  obtain ⟨fuel, rfl⟩ := Nat.exists_eq_succ_of_ne_zero (Nat.ne_of_gt (Nat.zero_lt_of_lt hfuel))
  induction k generalizing i fuel with
  | zero =>
    obtain rfl : i = n := hk
    have hstop : stepDue (coreAfter p e.core i) = false := by
      refine stepDue_of_lt ?_
      change e.core.gen.elapsed - i * p.nominal < e.core.gen.spacing
      rw [h.spacing, hn, ← Nat.mod_eq_sub_div_mul]
      exact Nat.mod_lt _ hpos
    unfold countWhile
    rw [hactive]
    exact if_neg (by change ¬stepDue (coreAfter p e.core i) = true; rw [hstop]; decide)
  | succ k ih =>
    have hdue : (i + 1) * p.nominal ≤ e.core.gen.elapsed := le_trans (Nat.mul_le_mul_right _ (by omega)) hall
    have hbefore : (if decide (i ≠ 0) = true then keepPassing (caughtAfter p bs e i) else caughtAfter p bs e i) = beforeStep (caughtAfter p bs e i) i := by
      unfold beforeStep
      by_cases hi : i = 0 <;> simp [hi]
    obtain ⟨fuel, rfl⟩ := Nat.exists_eq_succ_of_ne_zero (n := fuel) (by omega)
    have hrest := ih (i := i + 1) (by omega) fuel (by omega)
    rw [decide_eq_true (Nat.succ_ne_zero i)] at hrest
    unfold countWhile
    rw [hactive]
    dsimp only
    rw [hbefore, caughtAfter_step h (by omega) hsps, hrest]
    exact if_pos (stepDue_coreAfter h hdue)

theorem runGenerator_caughtAfter (h : CountsNominal p bs e) (hn : n = e.core.gen.elapsed / p.nominal) (hpos : 0 < p.nominal)
    (hsteps : e.core.steps + n < p.sps) (hsps : p.sps ≤ 8192) : runGenerator false e = caughtAfter p bs e n := by
  have hle : n ≤ e.core.gen.elapsed := hn ▸ Nat.div_le_self _ _
  have hrun := countWhile_caughtAfter (i := 0) h hn hpos hsteps hsps n (dueFuel e.core) (Nat.zero_add n) (by unfold dueFuel; omega)
  rw [caughtAfter_zero] at hrun
  exact hrun

end

/-- Settles O47: the loss timer, the hold-off timer, and the catch-up that the loss of a joined source starts. -/
theorem linkTimersMoveTheQualifier : Obligations.LinkTimersMoveTheQualifier := by
  refine ⟨fun l p s hactive hloss hother hchoose => ⟨fun h hholdoff => ?fails, fun h hholdoff => ?restarts, fun h => ?seeks⟩,
    fun l p s hactive hfailed hhold hchoose => ?heldOff, ?caught⟩
  case fails =>
    refine exec_lossTimerExpiry_of_write hloss ((expireLoss_of_measured h).trans (failLink_of_holdoff hactive ?_ hholdoff))
    exact choose_setLink_of_unselected ⟨nofun, .inl nofun⟩ hother hchoose
  case restarts =>
    refine exec_lossTimerExpiry_of_write hloss ((expireLoss_of_measured h).trans (failLink_of_no_holdoff hactive ?_ hholdoff))
    exact choose_setLink_of_unselected ⟨nofun, .inl nofun⟩ hother hchoose
  case seeks =>
    refine exec_lossTimerExpiry_of_write hloss ((expireLoss_of_qualifying h).trans ((changeQual_eq hactive ?_).trans (by rw [h]; rfl)))
    exact choose_setLink_of_unselected ⟨nofun, .inl nofun⟩ hother hchoose
  case heldOff =>
    refine exec_holdoffTimerExpiry_of_write hfailed hhold ((changeQual_eq hactive ?_).trans (by rw [hfailed]; rfl))
    exact choose_setLink_of_unselected ⟨nofun, .inl nofun⟩ (source_ne_of_failed hfailed hchoose) hchoose
  case caught =>
    intro l p bs n lost at' s u hactive hrole hnominal hsel hlocked hvalid ht hstopped hlearned hticks hloss hmeasured hholdoff hothers hset hn hsteps hsps
      hlost hat hu
    obtain ⟨e, he⟩ : ∃ e, e = writeLink l (failedLink (lossCounted (link l s).qual) (link l s)) (raised (.link l .failed (link l s).qual.state .loss 1)
        (raised (.time .free .locked none 4 s.core.hops none s.core.syncIndex 1) s.notices)) (freed p s) := ⟨_, rfl⟩
    have hexpire : expireLoss l s = e := by
      rw [expireLoss_of_measured hmeasured, failLink_of_lost_source hactive hrole hsel hlocked ht hstopped hlearned hholdoff hothers, he]
    have hcounts : CountsNominal p bs e := by
      rw [he]
      exact ⟨hactive, rfl, hvalid, rfl, rfl, hlearned, rfl, hset⟩
    have hat' : at' = coreAfter p e.core := by
      funext i
      rw [hat, he]
      rfl
    have hcaught : catchUp false s e = caughtAfter p bs e n := by
      have hstarted : generatorStarted s e = true := by
        rw [generatorStarted, hstopped, hcounts.running]
        rfl
      refine (if_pos hstarted).trans (runGenerator_caughtAfter hcounts ?_ (by omega) ?_ hsps)
      · rw [hn, he]
        rfl
      · rw [he]
        exact hsteps
    have hu' : u = transmit (caughtAfter p bs e n) := by
      rw [hu, hat', hlost, he]
      rfl
    have hkept : u.kept = s.kept + (n - 1) := by
      rw [hu', transmit_kept, he]
      rfl
    rw [exec_lossTimerExpiry_eq hloss hexpire, hcaught, ← hu', endCatchUp, hkept]
    exact congrArg Host.Outcome.next (if_congr (by omega) rfl rfl)

end Sys2Proof.Machine
end

section
/-! SUPPORT. The marks of the selected source (R8, R10, R11): what the qualifier hands to the core, the mark counted in LOCKED, and the position followed in ACQUIRING. -/

namespace Sys2Proof.Machine

/-! ## Marks on the SEND links (R26) -/

section
variable {m : Mark} {v : Per6 LinkUnit} {l : LinkNo} {u w : LinkUnit}

theorem markOnSendLinks_get (m : Mark) (v : Per6 LinkUnit) (l : LinkNo) : (markOnSendLinks m v).get l = sentOn m (v.get l) := Per6.get_map _ v l

theorem sentOn_of_receive (h : u.dir = .receive) : sentOn m u = u := if_neg (by rw [h]; decide)

theorem sentOn_rx (m : Mark) (u : LinkUnit) : (sentOn m u).rx = u.rx := by
  unfold sentOn
  split <;> rfl

/-- A RECEIVE link takes no mark, so its own write may come before or after the mark. -/
theorem markOnSendLinks_set (h : w.dir = .receive) : (markOnSendLinks m (v.set l u)).set l w = markOnSendLinks m (v.set l w) := by
  refine Per6.ext_get fun i => ?_
  by_cases hi : i = l
  · subst hi
    rw [Per6.get_set_self, markOnSendLinks_get, Per6.get_set_self, sentOn_of_receive h]
  · rw [Per6.get_set_ne _ _ hi, markOnSendLinks_get, markOnSendLinks_get, Per6.get_set_ne _ _ hi, Per6.get_set_ne _ _ hi]

end

/-- The marks of a counted step leave the outcome of a re-evaluation. -/
theorem choose_of_sameFit {p : Plan} {s t : State} (hlinks : ∀ l, (link l t).dir = (link l s).dir ∧ (link l t).qual = (link l s).qual
    ∧ (link l t).rx = (link l s).rx) (hsel : t.sel = s.sel) : choose p t = choose p s :=
  choose_congr (fun l => usable_congr (hlinks l).1 (congrArg Qualifier.state (hlinks l).2.1) (congrArg latestQuality (hlinks l).2.2) (by rw [hsel]))
    (by rw [hsel])

theorem sentOn_sameFit (m : Mark) (u : LinkUnit) : (sentOn m u).dir = u.dir ∧ (sentOn m u).qual = u.qual ∧ (sentOn m u).rx = u.rx :=
  ⟨sentOn_dir m u, sentOn_qual m u, sentOn_rx m u⟩

/-- The relayed mark and the core's step leave a re-evaluation as the link's own write has it. -/
theorem choose_of_relayed {p : Plan} {l : LinkNo} {m : Mark} {u : LinkUnit} {s t : State} (hlinks : t.links = markOnSendLinks m (s.links.set l u))
    (hsel : t.sel = s.sel) : choose p t = choose p (setLink l u s) := by
  refine choose_of_sameFit (s := setLink l u s) (fun i => ?_) hsel
  have hlink : link i t = sentOn m (link i (setLink l u s)) := by
    rw [link, hlinks, markOnSendLinks_get]
    rfl
  rw [hlink]
  exact sentOn_sameFit m _

/-! ## Good marks (R42, R44) -/

theorem AwaitsGoodMark.interval {p : Plan} {sync : Bool} {q : Qualifier} (h : AwaitsGoodMark p sync q) : false = false ↔ IntervalIsGood p q :=
  iff_of_true rfl ⟨h.2.1, h.2.2.1⟩

theorem AwaitsGoodMark.plain {p : Plan} {q : Qualifier} (h : AwaitsGoodMark p false q) : false = true ↔ PlainMarkIsFault q := by
  obtain ⟨-, -, -, ph, n, hphase, hlt, hsps, hne⟩ := h
  refine iff_of_false nofun ?_
  rintro ⟨k, hk, hfault⟩
  obtain rfl := Option.some.inj (hphase.symm.trans hk)
  rw [hsps, min_eq_left (by omega)] at hfault
  exact hne (Option.some.inj hfault).symm

theorem AwaitsGoodMark.sync {p : Plan} {q : Qualifier} (h : AwaitsGoodMark p true q) : false = true ↔ SyncMarkIsFault q := by
  obtain ⟨-, -, -, ph, n, hphase, hlt, hsps, heq, hseen⟩ := h
  refine iff_of_false nofun ?_
  rintro ⟨k, hk, hfault⟩
  obtain rfl := Option.some.inj (hphase.symm.trans hk)
  rw [hsps, min_eq_left (by omega), heq, hseen] at hfault
  exact hfault.elim (fun hne => hne rfl) nofun

theorem AwaitsGoodMark.measuredPlain {p : Plan} {q : Qualifier} (h : AwaitsGoodMark p false q) : measuredPlain p false false q =
    { q with lastInterval := some q.sinceMark, sinceMark := 0, phase := q.phase.map (· + 1), loss := some (4 * p.nominal) } := by
  obtain ⟨-, -, -, ph, n, hphase, hlt, -⟩ := h
  have hmin : min (ph + 1) 65535 = ph + 1 := min_eq_left hlt
  simp [Machine.measuredPlain, hphase, hmin]

section
variable {p : Plan} {l : LinkNo} {k : MarkKind} {s : State} {u : LinkUnit} {q : Qualifier} {bad fault : Bool}

/-- A good mark on a VALID link is measured, and the qualifier's state stands (R42, R48). -/
theorem qualifyMark_of_good {m : Qualifier} (hactive : activePlan s = some p) (hu : link l s = u) (hvalid : u.qual.state = .valid)
    (hm : m.state = .valid) (hjudged : Judged p k u.qual false false m) : qualifyMark p l k s = writeLink l { u with qual := m } s.notices s := by
  rw [qualifyMark_eq (by rw [hu]) (.inr (.inl hvalid)) hjudged]
  exact actOn_eq hactive hu (hvalid.trans hm.symm) (.keeps hm) fun hmoved => absurd rfl hmoved

theorem handedMeasure_eq (hstate : q.state = .qualifying ∨ q.state = .valid ∨ q.state = .suspect) (hstep : goodStep p q.sinceMark = !bad) :
    handedMeasure p q = some (q.sinceMark, !bad) := by
  rw [handedMeasure, hstep]
  obtain h | h | h := hstate <;> rw [h]

end

/-! ## The mark counted (R8, R10) -/

/-- The core that counts a mark: a good interval learned, and the mark in the place of the generator's step (R8). -/
def learnedCore (bad : Bool) (interval : Nat) (c : Core) : Core :=
  { c with
    learned := if bad then c.learned else (c.learned ++ [interval]).drop (c.learned.length + 1 - 8)
    gen := { c.gen with elapsed := 0 } }

section
variable {p : Plan} {l : LinkNo} {k : MarkKind} {w : State} {bad : Bool} {interval : Nat}

theorem countMark_plain : countMark p l .plain (some (interval, !bad)) w = countPlain (setCore (learnedCore bad interval w.core) w) := by
  cases bad <;> rfl

theorem countMark_sync (hk : k ≠ .plain) : countMark p l k (some (interval, !bad)) w =
    takeSync p (.mark l (decide (k = .syncRealign))) (setCore (learnedCore bad interval w.core) w) := by
  cases k with
  | plain => exact absurd rfl hk
  | _ => cases bad <;> rfl

theorem coreMark_of_locked {measured : Option (Nat × Bool)} (hsel : w.sel = { source := some l, joined := true }) (hlocked : w.core.state = .locked) :
    coreMark p l k measured w = countMark p l k measured w := by
  unfold coreMark
  rw [if_neg (not_not_intro (congrArg Selection.source hsel)), if_pos ⟨hlocked, congrArg Selection.joined hsel⟩]

theorem coreMark_of_join {measured : Option (Nat × Bool)} (hsource : w.sel.source = some l) (hlocked : w.core.state ≠ .locked)
    (h : makesJoin p l k w = true) : coreMark p l k measured w = joinAt p l w := by
  unfold coreMark
  rw [if_neg (not_not_intro hsource), if_neg fun hjoined => hlocked hjoined.1, if_pos h]

theorem coreMark_of_acquiring {measured : Option (Nat × Bool)} (hsource : w.sel.source = some l) (hstate : w.core.state = .acquiring)
    (h : ¬makesJoin p l k w = true) : coreMark p l k measured w =
      setCore { w.core with ticks := 0, steps := if k = .plain then min (w.core.steps + 1) 4294967295 else 0 } w := by
  unfold coreMark
  rw [if_neg (not_not_intro hsource), if_neg fun hjoined => absurd (hstate.symm.trans hjoined.1) (by decide), if_neg h, followPosition, if_pos hstate]
  rfl

/-- A plain mark of the joined source, counted and relayed, with the qualifier's move as given. -/
theorem exec_plainMark_of_source {s : State} {b : Option Byte} {bs : List Byte} {moved : Qualifier} {told : NoticeUnit} (hactive : activePlan s = some p)
    (hdir : (link l s).dir = .receive) (hsel : s.sel = { source := some l, joined := true }) (hlocked : s.core.state = .locked)
    (hvalid : s.core.valid = true) (hsteps : s.core.steps < 4294967295) (hset : s.outSet = some bs)
    (hstate : (link l s).qual.state = .qualifying ∨ (link l s).qual.state = .valid ∨ (link l s).qual.state = .suspect)
    (hstep : goodStep p (link l s).qual.sinceMark = !bad)
    (hqualify : qualifyMark p l .plain s = writeLink l { link l s with qual := moved } told s) :
    exec (.linkMark l .plain b) s = .next (afterByte l b s { s with
      core := { s.core with
        time := s.core.time + 1, ticks := 0, steps := s.core.steps + 1,
        learned := if bad then s.core.learned else (s.core.learned ++ [(link l s).qual.sinceMark]).drop (s.core.learned.length + 1 - 8),
        gen := { s.core.gen with elapsed := 0 } }
      pulses := s.pulses.map stepPulse
      links := markOnSendLinks { kind := .plain, byte := bs[s.core.steps]? } (s.links.set l { link l s with qual := moved })
      notices := told }) := by
  have hmay : mayEmit s.core = true := by
    rw [mayEmit, hlocked, hvalid]
    rfl
  have hcount := countPlain_eq (bs := bs)
    (s := setCore (learnedCore bad (link l s).qual.sinceMark s.core) (writeLink l { link l s with qual := moved } told s)) hmay
  rw [composeIfDue_of_not_due (.inl (by change s.outSet.isSome; rw [hset]; rfl))] at hcount
  refine exec_plainMark_eq hactive hdir hqualify hactive rfl
    ((coreMark_of_locked (w := writeLink l { link l s with qual := moved } told s) hsel hlocked).trans ?_) ?_ rfl rfl
  · rw [handedMeasure_eq hstate hstep, countMark_plain]
    exact hcount hset hsteps
  · refine (congrArg LinkUnit.dir (markOnSendLinks_get _ _ l)).trans ((sentOn_dir _ _).trans ?_)
    rw [Per6.get_set_self]
    exact hdir

/-- A good plain mark of the selected source in ACQUIRING: the position follows it, and nothing else of the core does (R10). -/
theorem exec_plainMark_of_acquiring {s : State} (hactive : activePlan s = some p) (hdir : (link l s).dir = .receive) (hsource : s.sel.source = some l)
    (hstate : s.core.state = .acquiring) (hgood : AwaitsGoodMark p false (link l s).qual) :
    exec (.linkMark l .plain none) s = .next (transmit { s with
      core := { s.core with ticks := 0, steps := min (s.core.steps + 1) 4294967295 }
      links := s.links.set l { link l s with qual := measuredPlain p false false (link l s).qual } }) := by
  have hqualify : qualifyMark p l .plain s = writeLink l { link l s with qual := measuredPlain p false false (link l s).qual } s.notices s :=
    qualifyMark_of_good (m := measuredPlain p false false (link l s).qual) hactive rfl hgood.1 hgood.1 (judged_plain hgood.interval hgood.plain)
  have hcore (measured : Option (Nat × Bool)) (w : State) (hw : w.sel.source = some l) (hst : w.core.state = .acquiring) :
      coreMark p l .plain measured w = setCore { w.core with ticks := 0, steps := min (w.core.steps + 1) 4294967295 } w := by
    refine (coreMark_of_acquiring hw hst fun h => (makesJoin_iff.mp h).2.2.2.1 rfl).trans ?_
    rw [if_pos rfl]
  refine exec_plainMark_eq (b := none) hactive hdir hqualify hactive rfl (hcore _ _ hsource hstate) ?_ rfl rfl
  exact (congrArg LinkUnit.dir (link_setLink_self l _ s)).trans hdir

theorem suspected_of_unseen {q : Qualifier} (h : q.announceSeen = false) :
    { measuredSync p false true q with state := .suspect, bad := 1, good := 0 } = { q with
      state := .suspect, bad := 1, good := 0, lastInterval := some q.sinceMark, sinceMark := 0, phase := some 0, intervalSps := some p.sps,
      loss := some (4 * p.nominal), syncFaults := min (q.syncFaults + 1) 65535 } := by
  cases q
  cases h
  rfl

/-- A sync mark with no announce before it makes the VALID source SUSPECT, if the choice stays with it (R44, R45). -/
theorem qualifyMark_of_syncFault {s : State} {moved : Qualifier} (hk : k ≠ .plain) (hactive : activePlan s = some p)
    (hqual : (link l s).qual.state = .valid) (hphase : (link l s).qual.phase.isSome) (hinterval : IntervalIsGood p (link l s).qual)
    (hseen : (link l s).qual.announceSeen = false)
    (hmoved : moved = { measuredSync p false true (link l s).qual with state := .suspect, bad := 1, good := 0 })
    (hchoose : choose p (setLink l { link l s with qual := moved } s) = s.sel.source) :
    qualifyMark p l k s = writeLink l { link l s with qual := moved } (raised (.link l .suspect .valid .syncFault 1) s.notices) s := by
  subst hmoved
  obtain ⟨n, hn⟩ := Option.isSome_iff_exists.mp hphase
  have hjudged := judged_sync hk (iff_of_true rfl hinterval) (iff_of_true (a := true = true) rfl ⟨n, hn, .inr hseen⟩)
  rw [qualifyMark_eq rfl (.inr (.inl hqual)) hjudged, verdictOf_bad (.inr rfl) rfl]
  exact actOn_eq hactive rfl rfl (.suspects hqual) fun _ => hchoose

theorem exec_syncFault_of_acquiring {s t : State} (hactive : activePlan s = some p) (hdir : (link l s).dir = .receive)
    (hsource : s.sel.source = some l) (hstate : s.core.state = .acquiring) (hk : k ≠ .plain) (hqual : (link l s).qual.state = .valid)
    (hphase : (link l s).qual.phase.isSome) (hinterval : IntervalIsGood p (link l s).qual) (hseen : (link l s).qual.announceSeen = false)
    (hmsg : (link l s).rx.msg = []) (hnone : (link l s).rx.annCur = none) (hlatest : (link l s).rx.qualCur = none → (link l s).rx.qualLast = none)
    (hchoose : choose p t = some l)
    (ht : t = setCore { s.core with ticks := 0, steps := 0 } (writeLink l { link l s with
      qual := { measuredSync p false true (link l s).qual with state := .suspect, bad := 1, good := 0 }
      rx := rolledOver (link l s).rx } (raised (.link l .suspect .valid .syncFault 1) s.notices) s)) :
    exec (.linkMark l k none) s = .next (transmit t) := by
  generalize hmoved : ({ measuredSync p false true (link l s).qual with state := .suspect, bad := 1, good := 0 } : Qualifier) = moved at ht
  generalize htold : raised (.link l .suspect .valid .syncFault 1) s.notices = told at ht
  have hself : (link l (writeLink l { link l s with qual := moved } told s)) = { link l s with qual := moved } := link_writeLink_self
  have hchoose' : choose p (setLink l { link l s with qual := moved } s) = s.sel.source := by
    rw [hsource, ← hchoose, ht]
    refine choose_setLink_congr (b := { link l s with qual := moved, rx := rolledOver (link l s).rx }) ?_
    refine usable_congr (by rw [link_setLink_self, link_setLink_self]) (by rw [link_setLink_self, link_setLink_self]) ?_ rfl
    rw [link_setLink_self, link_setLink_self]
    exact (latestQuality_rolledOver hlatest).symm
  have hqualify := qualifyMark_of_syncFault (k := k) hk hactive hqual hphase hinterval hseen hmoved.symm hchoose'
  rw [htold] at hqualify
  have hcore (measured : Option (Nat × Bool)) (w : State) (hw : w.sel.source = some l) (hst : w.core.state = .acquiring)
      (hann : (link l w).rx.annCur = none) : coreMark p l k measured w = setCore { w.core with ticks := 0, steps := 0 } w := by
    refine (coreMark_of_acquiring hw hst fun h => ?_).trans (by rw [if_neg hk])
    exact absurd (makesJoin_iff.mp h).2.2.2.2 (by rw [hann]; decide)
  have hfollowed := hcore (handedMeasure p (link l s).qual) (writeLink l { link l s with qual := moved } told s) hsource hstate (by rw [hself]; exact hnone)
  have hlink (c : Core) : link l (setCore c (writeLink l { link l s with qual := moved } told s)) = { link l s with qual := moved } := hself
  have hroll : finishMark l k none (setCore { s.core with ticks := 0, steps := 0 } (writeLink l { link l s with qual := moved } told s)) = t := by
    rw [finishMark_sync hk (by rw [hlink]; exact hdir), rollOver_eq (by rw [hlink]; exact hmsg) (by rw [hlink]; exact hlatest), hlink, ht]
    exact congrArg (setCore { s.core with ticks := 0, steps := 0 }) (setRx_writeLink _)
  rw [exec_syncMark_eq hactive hdir hk hmsg hqualify hactive rfl hfollowed]
  rw [writeLink_core, hroll, catchUp_of_still, endCatchUp_of_kept]
  all_goals rw [ht]
  · exact transmit_kept _
  · rfl

end

/-- Settles O43: the good mark, the marks that move the qualifier, and the position followed in ACQUIRING. -/
theorem goodMarkOfTheJoinedSourceIsCounted : Obligations.GoodMarkOfTheJoinedSourceIsCounted := by
  refine ⟨fun l p b bs s hactive hdir hsel hlocked hvalid _ hsteps hset hgood => ?good,
    fun l p b bs bad fault cause q m moved told s t hactive hdir hsel hlocked hvalid _ hsteps hset hq hbad hfault hcause hm hmoves ht => ?moves,
    fun l p s hactive hdir hsel hstate => ⟨fun hgood => ?position, fun k t hk hqual hphase hinterval hseen hmsg hnone hlatest hchoose ht => ?fault⟩⟩
  case good =>
    rw [← hgood.measuredPlain]
    exact exec_plainMark_of_source (bad := false) hactive hdir hsel hlocked hvalid hsteps hset (.inr (.inl hgood.1)) (goodStep_of_iff hgood.interval)
      (qualifyMark_of_good hactive rfl hgood.1 hgood.1 (judged_plain hgood.interval hgood.plain))
  case moves =>
    subst hq hm
    have hjudged := judged_plain hbad hfault
    have key {v : Verdict} (hstate : (link l s).qual.state = .qualifying ∨ (link l s).qual.state = .valid ∨ (link l s).qual.state = .suspect)
        (hv : verdictOf bad fault = v)
        (hverdict : VerdictMoves p l (link l s) (measuredPlain p bad fault (link l s).qual) s.notices v { link l s with qual := moved } told)
        (hchoose : moved.state ≠ (link l s).qual.state → choose p t = some l) : exec (.linkMark l .plain b) s = .next (afterByte l b s t) := by
      rw [ht]
      refine exec_plainMark_of_source hactive hdir hsel hlocked hvalid hsteps hset hstate hjudged.step ?_
      rw [qualifyMark_eq rfl hstate hjudged, hv]
      refine actOn_eq hactive rfl rfl hverdict fun hmoved => ?_
      have hsource : s.sel.source = some l := congrArg Selection.source hsel
      rw [hsource, ← hchoose hmoved, ht]
      exact Eq.symm (choose_of_relayed (m := { kind := .plain, byte := bs[s.core.steps]? }) rfl rfl)
    obtain ⟨hst, hbf, hchoose, hmoved, htold⟩ | ⟨hst, hbf, hgrace, hmoved, htold⟩ | ⟨hst, hb, hf, hcount, hchoose, hmoved, htold⟩
      | ⟨hst, hb, hf, hcount, hmoved, htold⟩ := hmoves
    · subst hmoved htold
      exact key (.inr (.inl hst)) (verdictOf_bad hbf hcause) (.suspects hst) fun _ => hchoose
    · subst hmoved htold
      exact key (.inr (.inr hst)) (verdictOf_bad hbf hcause) (.endures hst hgrace) fun hmoved => absurd rfl hmoved
    · subst hmoved htold
      refine key (.inr (.inr hst)) (verdictOf_good hb hf) ?_ fun _ => hchoose
      rw [← hst]
      exact .enters (.inr hst) hcount fun h => nomatch hst.symm.trans h
    · subst hmoved htold
      exact key (.inr (.inr hst)) (verdictOf_good hb hf) (.counts (.inr hst) (.inl hcount)) fun hmoved => absurd rfl hmoved
  case position => exact exec_plainMark_of_acquiring hactive hdir (congrArg Selection.source hsel) hstate hgood
  case fault =>
    subst ht
    rw [← suspected_of_unseen hseen] at hchoose ⊢
    exact exec_syncFault_of_acquiring hactive hdir (congrArg Selection.source hsel) hstate hk hqual hphase hinterval hseen hmsg hnone hlatest hchoose rfl

end Sys2Proof.Machine
end

section
/-! SUPPORT. A sync of the core that a mark brings (R11, R14 to R16): the join and the time check, with no entry due and nothing held. -/

namespace Sys2Proof.Machine

/-! ## A sync taken in LOCKED (R14) -/

/-- A sync's last stages in LOCKED, with no entry due: the index, the record and the mark on the SEND links. -/
def lockedSync (k : MarkKind) (w : State) : State :=
  { w with
    core := { w.core with steps := 0, syncIndex := w.core.syncIndex + 1, record := { final := w.core.time, valid := true }, syncWork := none }
    links := markOnSendLinks { kind := k, byte := none } w.links
    outSet := none }

section
variable {p : Plan} {cause : SyncCause} {previous : CoreState} {reached v : Time} {s w : State}

theorem boundary_of_locked (h : w.core.state = .locked) :
    boundary p w = setCore { w.core with steps := 0, syncIndex := w.core.syncIndex + 1 } w := by
  refine if_neg fun hholdover : w.core.state = .holdover => ?_
  exact absurd (h.symm.trans hholdover) (by decide)

theorem reportJoin_setCore {c : Core} (hstate : c.state = s.core.state) (hgrade : c.grade = s.core.grade) (hhops : c.hops = s.core.hops)
    (hindex : c.syncIndex = s.core.syncIndex) :
    reportJoin cause previous reached v (setCore c s) = setCore c (reportJoin cause previous reached v s) := by
  cases cause with
  | join l =>
    change raiseTime _ _ (setCore c s) = setCore c (raiseTime _ _ s)
    rw [raiseTime, raiseTime, setCore_core, setCore_sel, hstate, hgrade, hhops, hindex]
    rfl
  | _ => rfl

theorem reportJoin_frame : reportJoin cause previous reached v s = { s with notices := (reportJoin cause previous reached v s).notices } := by
  cases cause <;> rfl

theorem takeSync_of_locked (hcompose : composeIfDue s = s) (hw : correct p cause (beginSync s) = w) (hlocked : w.core.state = .locked)
    (hvalid : w.core.valid = true) (hdue : dueEntries w.core.time w.sched.queue = []) (hheld : w.plans.held = none) (hactive : activePlan w = some p) :
    takeSync p cause s = reportJoin cause s.core.state (s.core.time + 1) w.core.time (lockedSync (syncKind s.core) w) := by
  generalize hf : setCore { w.core with steps := 0, syncIndex := w.core.syncIndex + 1 } w = f
  have hfcore : f.core = { w.core with steps := 0, syncIndex := w.core.syncIndex + 1 } := by rw [← hf, setCore_core]
  have hfire : f = fire w.core.time s.core.record p.sps (boundary p w) := by
    rw [boundary_of_locked hlocked, hf, fire_of_none]
    · rw [← hf]
      exact hdue
    · rw [hfcore]
  have hmay : mayEmit (recordFinal f).core = true := by
    change mayEmit { f.core with record := _ } = true
    rw [hfcore]
    change (counting w.core.state && w.core.valid) = true
    rw [hlocked, hvalid]
    rfl
  generalize he : reportJoin cause s.core.state (s.core.time + 1) w.core.time (emit { kind := syncKind s.core, byte := none } (recordFinal f)) = e
  rw [emit_of_mayEmit _ hmay] at he
  have hecore : e.core = { f.core with record := { final := f.core.time, valid := true } } := by rw [← he, reportJoin_frame]; rfl
  have heplans : e.plans = w.plans := by rw [← he, reportJoin_frame, ← hf]; rfl
  have hestate : e.core.state = .locked := by
    rw [hecore, hfcore]
    exact hlocked
  have hr : e = failoverController e.core.state e := by
    refine (failoverController_of_still (p := p) ?_ ?_ (.inl fun h => ?_)).symm
    · rw [activePlan, heplans]
      exact hactive
    · rw [heplans, hheld]
    · rw [hestate] at h
      exact h.2.elim nofun nofun
  rw [takeSync_eq p cause (w := w) (f := f) (e := e) (r := e) (by rw [hcompose, hw]) hfire (by rw [← he, emit_of_mayEmit _ hmay]) hr, hecore]
  change setCore _ e = _
  rw [← he, ← reportJoin_setCore]
  · rw [← hf]
    rfl
  all_goals rfl

end

/-! ## The mark of the selected source, taken by its receiver (R25, R32) -/

section
variable {p : Plan} {l : LinkNo} {k kind : MarkKind} {s w : State}

theorem catchUp_of_stopped {between : Bool} {b : State} (h : s.core.gen.running = false) : catchUp between b s = s :=
  if_neg (by rw [generatorStarted, h, Bool.and_false]; decide)

theorem latestQuality_of_current {rx : Receiver} (h : rx.qualCur = none → rx.qualLast = none) : latestQuality rx = rx.qualCur := by
  rw [latestQuality]
  cases hcur : rx.qualCur with
  | none => rw [h hcur]; rfl
  | some q => rfl

theorem afterSyncMark_eq :
    { link l s with qual := measuredSync p false false (link l s).qual, rx := rolledOver (link l s).rx } = afterSyncMark p (link l s) := rfl

/-- The receiver's end of the work, after a sync that marked the SEND links. -/
theorem finishMark_of_taken {u : LinkUnit} (hk : k ≠ .plain) (hdir : u.dir = .receive) (hmsg : u.rx.msg = [])
    (hlatest : u.rx.qualCur = none → u.rx.qualLast = none) (hlinks : w.links = markOnSendLinks { kind := kind, byte := none } (s.links.set l u)) :
    finishMark l k none w = { w with
      links := markOnSendLinks { kind := kind, byte := none } (s.links.set l { u with rx := rolledOver u.rx }) } := by
  have hlink : link l w = u := by rw [link, hlinks, markOnSendLinks_get, Per6.get_set_self, sentOn_of_receive hdir]
  rw [finishMark_sync hk (by rw [hlink, hdir]), rollOver_eq (by rw [hlink, hmsg]) (by rwa [hlink]), setRx, hlink, setLink, hlinks]
  exact congrArg (fun v => { w with links := v }) (markOnSendLinks_set (w := { u with rx := rolledOver u.rx }) hdir)

/-- The good sync mark measured, before the core takes it. -/
theorem qualifyMark_of_goodSync (hactive : activePlan s = some p) (hk : k ≠ .plain) (hgood : AwaitsGoodMark p true (link l s).qual) :
    qualifyMark p l k s = setLink l { link l s with qual := measuredSync p false false (link l s).qual } s :=
  qualifyMark_of_good (m := measuredSync p false false (link l s).qual) hactive rfl hgood.1 hgood.1 (judged_sync hk hgood.interval hgood.sync)

end

/-! ## The join (R11) -/

section
variable {p : Plan} {l : LinkNo} {k : MarkKind} {s m : State}

theorem awaitsJoin_of_state {c : Core} (h : c.state = .acquiring ∨ c.state = .holdover ∨ c.state = .free
    ∨ (c.state = .master ∧ c.takeover = true ∧ p.revertive = true ∧ p.role ≠ .master)) : awaitsJoin p c = true := by
  unfold awaitsJoin
  obtain h | h | h | ⟨h, htakeover, hrevertive, hrole⟩ := h <;> rw [h]
  change (c.takeover && p.revertive && decide (p.role ≠ .master)) = true
  rw [htakeover, hrevertive, decide_eq_true hrole]
  rfl

theorem awaitsJoin_not_locked {c : Core} (h : awaitsJoin p c = true) : c.state ≠ .locked := by
  intro hlocked
  rw [awaitsJoin, hlocked] at h
  cases h

theorem exec_syncMark_of_join (hactive : activePlan s = some p) (hdir : (link l s).dir = .receive) (hk : k ≠ .plain)
    (hsel : s.sel = { source := some l, joined := false }) (hawaits : awaitsJoin p s.core = true) (hgood : AwaitsGoodMark p true (link l s).qual)
    (hmsg : (link l s).rx.msg = []) (hannounce : (link l s).rx.annCur.isSome)
    (hm : m = setCore { s.core with gen := { s.core.gen with running := false, elapsed := 0 } }
      (setLink l { link l s with qual := measuredSync p false false (link l s).qual } s)) :
    exec (.linkMark l k none) s = .next (endCatchUp s (transmit (catchUp false s (finishMark l k none (takeSync p (.join l) m))))) := by
  generalize hw : setLink l { link l s with qual := measuredSync p false false (link l s).qual } s = w at hm
  have hwcore : w.core = s.core := by rw [← hw]; rfl
  have hwsel : w.sel = s.sel := by rw [← hw]; rfl
  have hwlink : link l w = { link l s with qual := measuredSync p false false (link l s).qual } := by rw [← hw, link_setLink_self]
  have hjoin : makesJoin p l k w = true := by
    refine makesJoin_iff.mpr ⟨?_, ?_, ?_, hk, ?_⟩
    · rw [hwsel, hsel]
    · rw [hwsel, hsel]
    · rw [hwcore, hawaits]
    · rw [hwlink]
      exact hannounce
  have hcore (measured : Option (Nat × Bool)) : coreMark p l k measured w = takeSync p (.join l) m := by
    rw [coreMark_of_join (by rw [hwsel, hsel]) (by rw [hwcore]; exact awaitsJoin_not_locked hawaits) hjoin, hm, joinAt, hwcore]
    rfl
  refine exec_syncMark_eq hactive hdir hk hmsg ((qualifyMark_of_goodSync hactive hk hgood).trans hw) ?_ (by rw [hwcore]) (hcore _)
  rw [← hw]
  exact hactive

/-- The core of a join, before the boundary of its sync (R11 b, c). -/
theorem join_eq {v : Time} (hlatest : (link l s).rx.qualCur = none → (link l s).rx.qualLast = none) : join l v s = { s with
    core := { s.core with
      time := v, valid := true, takeover := false, realignPending := false, state := .locked
      outRealign := if s.core.state ≠ .acquiring ∧ v ≠ s.core.time then some (carryingSync s.core) else s.core.outRealign
      grade := max 1 (gradeAndHops (link l s).rx.qualCur).1, hops := min 15 ((gradeAndHops (link l s).rx.qualCur).2 + 1) }
    sel := { s.sel with joined := true } } := by
  unfold join
  rw [latestQuality_of_current hlatest]
  unfold lockedGrade
  dsimp only
  have hread (q : Option Quality) : readQuality q = gradeAndHops q := by cases q <;> rfl
  rw [hread]
  by_cases hjump : s.core.state ≠ .acquiring ∧ v ≠ s.core.time
  · simp only [if_pos hjump]
    rfl
  · simp only [if_neg hjump]

/-- The outbound realign after a sync that takes the value `v`: arranged by a jump, and otherwise what the sync leaves of it (R11, R15, R18). -/
def realignAfter (jumps : Bool) (c : Core) : Option SyncIndex :=
  if jumps then some (c.syncIndex + 2) else if c.outRealign = some (c.syncIndex + 1) then none else c.outRealign

theorem realignAfter_of_jump {jumps : Bool} {c : Core} (h : jumps = true) : realignAfter jumps c = some (c.syncIndex + 2) := if_pos h

theorem realignAfter_of_no_jump {jumps : Bool} {c : Core} (h : jumps = false) :
    realignAfter jumps c = if c.outRealign = some (c.syncIndex + 1) then none else c.outRealign := if_neg (by rw [h]; decide)

theorem carryingSync_beginSync (s : State) : carryingSync (beginSync s).core = s.core.syncIndex + 2 :=
  BitVec.add_assoc s.core.syncIndex 1 1

/-- A join with no entry due and nothing held (R11). -/
theorem takeSync_join_eq {v : Time} (hcompose : composeIfDue m = m) (hv : expectedTime l m = some v)
    (hlatest : (link l m).rx.qualCur = none → (link l m).rx.qualLast = none) (hdue : dueEntries v m.sched.queue = []) (hheld : m.plans.held = none)
    (hactive : activePlan m = some p) : takeSync p (.join l) m = { m with
      core := { m.core with
        state := .locked, time := v, valid := true, takeover := false, realignPending := false, steps := 0, ticks := 0,
        syncIndex := m.core.syncIndex + 1, record := { final := v, valid := true }, grade := max 1 (gradeAndHops (link l m).rx.qualCur).1
        hops := min 15 ((gradeAndHops (link l m).rx.qualCur).2 + 1)
        outRealign := realignAfter (decide (m.core.state ≠ .acquiring ∧ v ≠ m.core.time + 1)) m.core, syncWork := none }
      sel := { m.sel with joined := true }
      outSet := none
      pulses := m.pulses.map stepPulse
      links := markOnSendLinks { kind := syncKind m.core, byte := none } m.links
      notices := raised (.time .locked m.core.state m.sel.source (max 1 (gradeAndHops (link l m).rx.qualCur).1)
        (min 15 ((gradeAndHops (link l m).rx.qualCur).2 + 1)) (if m.core.state = .acquiring then none else some (v - (m.core.time + 1)))
        (m.core.syncIndex + 1) 1) m.notices } := by
  have hw : correct p (.join l) (beginSync m) = join l v (beginSync m) := by
    change (match expectedTime l m with | some v => join l v (beginSync m) | none => beginSync m) = _
    rw [hv]
  have hrealign : (if (beginSync m).core.state ≠ .acquiring ∧ v ≠ (beginSync m).core.time then some (carryingSync (beginSync m).core)
      else (beginSync m).core.outRealign) = realignAfter (decide (m.core.state ≠ .acquiring ∧ v ≠ m.core.time + 1)) m.core := by
    rw [carryingSync_beginSync]
    unfold realignAfter
    simp only [decide_eq_true_eq]
    rfl
  rw [join_eq (s := beginSync m) hlatest, hrealign] at hw
  exact takeSync_of_locked hcompose hw rfl rfl hdue hheld hactive

end

/-- Settles O44: the mark that is a join, first with nothing due or held, then as the sync it is whatever is due. -/
theorem syncMarkWithAnnounceJoins : Obligations.SyncMarkWithAnnounceJoins := by
  refine ⟨fun l k p a v s hactive hdir hk hsel hstate hgood hmsg hannounce hlatest hv hdue hheld hset => ?quiet,
    fun l k p s m hactive hdir hk hsel hstate hgood hmsg hannounce hm =>
      exec_syncMark_of_join hactive hdir hk hsel (awaitsJoin_of_state hstate) hgood hmsg hannounce hm⟩
  case quiet =>
    generalize hmeasured : setCore { s.core with gen := { s.core.gen with running := false, elapsed := 0 } }
      (setLink l { link l s with qual := measuredSync p false false (link l s).qual } s) = m
    have hexec := exec_syncMark_of_join hactive hdir hk hsel (awaitsJoin_of_state hstate) hgood hmsg (by rw [hannounce]; rfl) hmeasured.symm
    have hlink : link l m = { link l s with qual := measuredSync p false false (link l s).qual } := by
      rw [← hmeasured]
      exact link_setLink_self l _ s
    have hsync := takeSync_join_eq (p := p) (l := l) (m := m) (v := v) (by rw [← hmeasured]; exact composeIfDue_of_not_due hset)
      (by rw [expectedTime, hlink, hv]; exact congrArg (Option.map _) hannounce) (by rw [hlink]; exact hlatest) (by rw [← hmeasured]; exact hdue)
      (by rw [← hmeasured]; exact hheld) (by rw [← hmeasured]; exact hactive)
    rw [hsync, finishMark_of_taken (s := s) (u := { link l s with qual := measuredSync p false false (link l s).qual }) (kind := syncKind s.core)
      hk hdir hmsg hlatest (by rw [← hmeasured]; rfl), catchUp_of_stopped (by rw [← hmeasured]; rfl), endCatchUp_of_kept, afterSyncMark_eq, hlink,
      ← hmeasured] at hexec
    · refine ⟨_, hexec, rfl, fun hacquiring hjump => realignAfter_of_jump (decide_eq_true ⟨hacquiring, hjump⟩), fun hstill => ?_,
        congrArg (fun sel : Selection => { sel with joined := true }) hsel, rfl, rfl, rfl, rfl, rfl, rfl, rfl, rfl, rfl, rfl, rfl, rfl,
        fun hacquiring hinv => ?_, ?_⟩
      · exact realignAfter_of_no_jump (decide_eq_false fun h => hstill.elim h.1 h.2)
      · obtain ⟨-, -, -, -, -, -, -, -, -, -, -, hclear⟩ := hinv
        exact congrArg (fun kind => markOnSendLinks { kind := kind, byte := none } (s.links.set l (afterSyncMark p (link l s))))
          (if_neg (hclear (.inl hacquiring)))
      · exact congrArg (fun source => raised (.time .locked s.core.state source _ _ _ _ 1) s.notices) (congrArg Selection.source hsel)
    · rw [← hmeasured]
      exact transmit_kept _

end Sys2Proof.Machine
end

section
/-! SUPPORT. The time check and the realign at a sync mark of the joined source (R15, R16). -/

namespace Sys2Proof.Machine

/-! ## The time check (R15, R16) -/

/-- What the check of the value `v` leaves: the time value, the outbound realign and the notices. -/
inductive Checked (p : Plan) (v : Time) (realigns : Bool) (s : State) : Time → Option SyncIndex → NoticeUnit → Prop
  | agrees (h : v = s.core.time) : Checked p v realigns s v s.core.outRealign s.notices
  | reports (hne : v ≠ s.core.time) (hpolicy : p.policy = .report) (hplain : realigns = false) (hpending : s.core.realignPending = false) :
      Checked p v realigns s s.core.time s.core.outRealign (raised (.fault [(.timeMismatch, 1)]) s.notices)
  | jumps (hne : v ≠ s.core.time) (h : p.policy = .resync ∨ realigns = true ∨ s.core.realignPending = true) :
      Checked p v realigns s v (some (carryingSync s.core))
        (raised (.time s.core.state s.core.state s.sel.source s.core.grade s.core.hops (some (v - s.core.time)) s.core.syncIndex 1) s.notices)

section
variable {p : Plan} {l : LinkNo} {k : MarkKind} {realigns : Bool} {v : Time} {s m : State}

/-- The state as a check leaves it. -/
def checkedState (s : State) (v : Time) (r : Option SyncIndex) (n : NoticeUnit) : State :=
  { s with core := { s.core with time := v, realignPending := false, outRealign := r }, notices := n }

theorem checkedState_self (hpending : s.core.realignPending = false) : checkedState s s.core.time s.core.outRealign s.notices = s := by
  unfold checkedState
  rw [← hpending]

theorem correct_mark_of_realign (h : realigns = true ∨ s.core.realignPending = true) : correct p (.mark l realigns) s = realign (expectedTime l s) s :=
  if_pos h

theorem correct_mark_of_none (h : ¬(realigns = true ∨ s.core.realignPending = true)) (hv : expectedTime l s = none) :
    correct p (.mark l realigns) s = s := by
  refine (if_neg h).trans ?_
  rw [hv]

theorem correct_mark_of_check (h : ¬(realigns = true ∨ s.core.realignPending = true)) (hv : expectedTime l s = some v) :
    correct p (.mark l realigns) s = timeCheck p v s := by
  refine (if_neg h).trans ?_
  rw [hv]

/-- The check of an announced value, with every outcome it can have (R15, R16). -/
theorem correct_mark_of_announced (hv : expectedTime l s = some v) :
    ∃ t r n, Checked p v realigns s t r n ∧ correct p (.mark l realigns) s = checkedState s t r n := by
  by_cases hrealign : realigns = true ∨ s.core.realignPending = true
  · rw [correct_mark_of_realign hrealign, hv]
    by_cases hsame : s.core.time = v
    · refine ⟨_, _, _, .agrees hsame.symm, (if_pos hsame).trans ?_⟩
      rw [← hsame]
      rfl
    · exact ⟨_, _, _, .jumps (Ne.symm hsame) (.inr hrealign), if_neg hsame⟩
  · obtain ⟨hplain, hpending⟩ : realigns = false ∧ s.core.realignPending = false :=
      ⟨Bool.not_eq_true _ ▸ fun h => hrealign (.inl h), Bool.not_eq_true _ ▸ fun h => hrealign (.inr h)⟩
    rw [correct_mark_of_check hrealign hv]
    by_cases hsame : s.core.time = v
    · refine ⟨_, _, _, .agrees hsame.symm, (if_pos hsame).trans ?_⟩
      rw [← hsame, checkedState_self hpending]
    · cases hpolicy : p.policy with
      | report =>
        refine ⟨_, _, _, .reports (Ne.symm hsame) hpolicy hplain hpending, (if_neg hsame).trans ?_⟩
        rw [hpolicy]
        exact (checkedState_self (s := raiseFault .timeMismatch s) hpending).symm
      | resync =>
        refine ⟨_, _, _, .jumps (Ne.symm hsame) (.inl hpolicy), (if_neg hsame).trans ?_⟩
        rw [hpolicy]
        exact (checkedState_self (s := takeJump v s) hpending).symm

/-! ## A sync mark of the joined source (R8, R14) -/

theorem exec_syncMark_of_source (hactive : activePlan s = some p) (hdir : (link l s).dir = .receive) (hk : k ≠ .plain)
    (hsel : s.sel = { source := some l, joined := true }) (hlocked : s.core.state = .locked) (hgood : AwaitsGoodMark p true (link l s).qual)
    (hmsg : (link l s).rx.msg = [])
    (hm : m = setCore (learnedCore false (link l s).qual.sinceMark s.core)
      (setLink l { link l s with qual := measuredSync p false false (link l s).qual } s)) :
    exec (.linkMark l k none) s
      = .next (endCatchUp s (transmit (catchUp false s (finishMark l k none (takeSync p (.mark l (decide (k = .syncRealign))) m))))) := by
  generalize hw : setLink l { link l s with qual := measuredSync p false false (link l s).qual } s = w at hm
  have hwcore : w.core = s.core := by rw [← hw]; rfl
  have hwsel : w.sel = s.sel := by rw [← hw]; rfl
  have hcore : coreMark p l k (handedMeasure p (link l s).qual) w = takeSync p (.mark l (decide (k = .syncRealign))) m := by
    rw [coreMark_of_locked (by rw [hwsel, hsel]) (by rw [hwcore, hlocked]),
      handedMeasure_eq (bad := false) (.inr (.inl hgood.1)) (goodStep_of_iff hgood.interval), countMark_sync hk, hm, hwcore]
  refine exec_syncMark_eq hactive hdir hk hmsg ((qualifyMark_of_goodSync hactive hk hgood).trans hw) ?_ (by rw [hwcore]) hcore
  rw [← hw]
  exact hactive

/-- A sync of the joined source with no entry due and nothing held: the check's outcome, and the boundary (R14). -/
theorem takeSync_mark_eq (hlocked : m.core.state = .locked) (hvalid : m.core.valid = true) (hset : m.outSet.isSome)
    (hv : expectedTime l m = some v) (hdue : dueEntries v m.sched.queue = []) (hdueStep : dueEntries (m.core.time + 1) m.sched.queue = [])
    (hheld : m.plans.held = none) (hactive : activePlan m = some p) :
    ∃ t r n, Checked p v realigns (beginSync m) t r n ∧ takeSync p (.mark l realigns) m = { m with
      core := { m.core with
        time := t, ticks := 0, steps := 0, realignPending := false, outRealign := r, syncIndex := m.core.syncIndex + 1,
        record := { final := t, valid := true }, syncWork := none }
      outSet := none
      pulses := m.pulses.map stepPulse
      links := markOnSendLinks { kind := syncKind m.core, byte := none } m.links
      notices := n } := by
  obtain ⟨t, r, n, hchecked, hw⟩ := correct_mark_of_announced (p := p) (realigns := realigns) (l := l) (s := beginSync m) (v := v) hv
  refine ⟨t, r, n, hchecked, takeSync_of_locked (composeIfDue_of_not_due (.inl hset)) hw hlocked hvalid ?_ hheld hactive⟩
  cases hchecked with
  | agrees h => exact hdue
  | reports hne hpolicy hplain hpending => exact hdueStep
  | jumps hne h => exact hdue

end

/-- Settles O45: the check at a sync mark, with nothing due; the mark without an announce; and the mark as the sync it is whatever is due. -/
theorem timeCheckReportsOrResyncs : Obligations.TimeCheckReportsOrResyncs := by
  refine ⟨fun l k p a v s hactive hdir hk hsel hlocked hvalid hstopped hgood hmsg hannounce hlatest hv hdue hdueStep hheld hset => ?quiet,
    fun p l realigns s hnone => ?unannounced,
    fun l k p s m hactive hdir hk hsel hlocked hgood hmsg hm => exec_syncMark_of_source hactive hdir hk hsel hlocked hgood hmsg hm⟩
  case unannounced =>
    have hexpected : expectedTime l s = none := congrArg (Option.map _) hnone
    by_cases hrealign : realigns = true ∨ s.core.realignPending = true
    · rw [if_pos hrealign, correct_mark_of_realign hrealign, hexpected]
      rfl
    · rw [if_neg hrealign, correct_mark_of_none hrealign hexpected]
  case quiet =>
    generalize hmeasured : setCore (learnedCore false (link l s).qual.sinceMark s.core)
      (setLink l { link l s with qual := measuredSync p false false (link l s).qual } s) = m
    have hexec := exec_syncMark_of_source hactive hdir hk hsel hlocked hgood hmsg hmeasured.symm
    have hlink : link l m = { link l s with qual := measuredSync p false false (link l s).qual } := by
      rw [← hmeasured]
      exact link_setLink_self l _ s
    obtain ⟨t, r, n, hchecked, hsync⟩ := takeSync_mark_eq (p := p) (l := l) (realigns := decide (k = .syncRealign)) (m := m) (v := v)
      (by rw [← hmeasured]; exact hlocked) (by rw [← hmeasured]; exact hvalid) (by rw [← hmeasured]; exact hset)
      (by rw [expectedTime, hlink, hv]; exact congrArg (Option.map _) hannounce) (by rw [← hmeasured]; exact hdue)
      (by rw [← hmeasured]; exact hdueStep) (by rw [← hmeasured]; exact hheld) (by rw [← hmeasured]; exact hactive)
    rw [hsync, finishMark_of_taken (s := s) (u := { link l s with qual := measuredSync p false false (link l s).qual }) (kind := syncKind s.core)
      hk hdir hmsg hlatest (by rw [← hmeasured]; rfl), catchUp_of_stopped (by rw [← hmeasured]; exact hstopped), endCatchUp_of_kept,
      afterSyncMark_eq] at hexec
    · rw [← hmeasured] at hexec hchecked
      refine ⟨_, hexec, rfl, rfl, rfl, rfl, rfl, rfl, rfl, rfl, rfl, rfl, rfl, rfl, rfl, rfl, ?_⟩
      cases hchecked with
      | agrees h =>
        exact ⟨fun _ => ⟨rfl, rfl⟩, fun hne => absurd h hne, fun _ => rfl, fun hne => absurd h hne⟩
      | reports hne hpolicy hplain hpending =>
        refine ⟨fun h => absurd h hne, fun _ _ _ _ => ⟨rfl, rfl⟩, fun _ => rfl, fun _ h => ?_⟩
        obtain h | h | h := h
        · exact absurd (hpolicy.symm.trans h) (by decide)
        · exact absurd h (of_decide_eq_false hplain)
        · exact absurd (hpending.symm.trans h) (by decide)
      | jumps hne h =>
        have hno : ¬(p.policy = .report ∧ k = .sync ∧ s.core.realignPending = false) := by
          rintro ⟨hpolicy, hsyncKind, hpending⟩
          obtain h | h | h := h
          · exact absurd (hpolicy.symm.trans h) (by decide)
          · exact absurd (hsyncKind.symm.trans (of_decide_eq_true h)) (by decide)
          · exact absurd (hpending.symm.trans h) (by decide)
        refine ⟨fun h => absurd h hne, fun _ hpolicy hsyncKind hpending => absurd ⟨hpolicy, hsyncKind, hpending⟩ hno,
          fun h => h.elim (absurd · hne) (absurd · hno), fun _ _ => ⟨rfl, congrArg some (carryingSync_beginSync _), s.core.syncIndex, ?_⟩⟩
        have hsource : s.sel.source = some l := congrArg Selection.source hsel
        rw [← hsource, ← hlocked]
        rfl
    · rw [← hmeasured]
      exact transmit_kept _

end Sys2Proof.Machine
end

section
/-! SUPPORT. A firing of several entries (R82, R99 to R102): the outcomes it settles, what it applies, and the ends of the turns. -/

namespace Sys2Proof.Machine

/-! ## The outcomes settled (R82, R99 to R101) -/

section
variable {records : Per4 (Option Plan)} {r : SyncRecord} {e : Entry} {es : List Entry} {i id : Nat} {o : Ending} {l : List (Nat × Ending)} {f : Firing}
  {s : State}

theorem lookup_settleAs : (settleAs id o l).lookup i = if i = id then (l.lookup i).map (fun _ => o) else l.lookup i := by
  induction l with
  | nil => split <;> rfl
  | cons x xs ih =>
    have hcons : settleAs id o (x :: xs) = (if x.1 = id then (id, o) else x) :: settleAs id o xs := rfl
    obtain ⟨j, q⟩ := x
    rw [hcons]
    by_cases hj : i = j
    · subst hj
      by_cases hid : i = id <;> simp [hid]
    · have hne : (i == j) = false := by simpa using hj
      by_cases hid : j = id
      · subst hid
        simp [List.lookup_cons, hne, ih]
      · simp [List.lookup_cons, hne, hid, ih]

theorem lookup_supersede {k : Option Nat} :
    (supersede k l).lookup i = if k = some i then (l.lookup i).map (fun _ => .superseded) else l.lookup i := by
  cases k with
  | none => rfl
  | some j =>
    rw [supersede, lookup_settleAs]
    simp only [Option.some.injEq, eq_comm]

/-- An entry's outcome as it is applied: its first one, or REFUSED for a SWITCH to an EMPTY plan (R82, R99). -/
def appliedOutcome (records : Per4 (Option Plan)) (r : SyncRecord) (e : Entry) : Ending :=
  match e.action with
  | .switch n => if records.get n = none then .refused else firstOutcome r e
  | _ => firstOutcome r e

/-- An entry's outcome once the entries `es` after it are applied (R100 a, R101 b). -/
def laterOutcome (records : Per4 (Option Plan)) (es : List Entry) (e : Entry) (o : Ending) : Ending :=
  if (isLoad e ∧ es.any isLoad) ∨ (takenSwitch records e ∧ es.any (takenSwitch records)) then .superseded else o

theorem settledEntries_cons :
    settledEntries records r (e :: es) = (e, laterOutcome records es e (appliedOutcome records r e)) :: settledEntries records r es := by
  rw [settledEntries]
  congr 2
  obtain ⟨id, action, _⟩ := e
  unfold laterOutcome appliedOutcome
  cases action with
  | load x => simp [isLoad, takenSwitch, firstOutcome]
  | switch n => cases hn : records.get n <;> simp [isLoad, takenSwitch, firstOutcome, hn]
  | pulse out w q => simp [isLoad, takenSwitch, firstOutcome]

theorem settledEntries_fst (es : List Entry) : (settledEntries records r es).map Prod.fst = es := by
  induction es with
  | nil => rfl
  | cons e es ih => rw [settledEntries_cons, List.map_cons, ih]

/-! ## One entry applied -/

theorem applyEntry_records : (applyEntry (f, s) e).2.plans.records = s.plans.records := by
  obtain ⟨id, action, _⟩ := e
  cases action with
  | switch n =>
    unfold applyEntry
    dsimp only
    split <;> rfl
  | _ => rfl

theorem applyEntry_lastLoad : (applyEntry (f, s) e).1.lastLoad = if isLoad e then some e.id else f.lastLoad := by
  obtain ⟨id, action, _⟩ := e
  cases action with
  | switch n =>
    unfold applyEntry
    dsimp only
    split <;> rfl
  | _ => rfl

theorem applyEntry_heldBy : (applyEntry (f, s) e).1.heldBy = if takenSwitch s.plans.records e then some e.id else f.heldBy := by
  obtain ⟨id, action, _⟩ := e
  cases action with
  | switch n =>
    cases hn : s.plans.records.get n <;> simp [applyEntry, takenSwitch, hn]
  | _ => rfl

/-- An entry applied supersedes the last LOAD before a LOAD, and the SWITCH held before a taken one. -/
theorem applyEntry_lookup_of_ne (h : e.id ≠ i) : (applyEntry (f, s) e).1.outcomes.lookup i =
    if (isLoad e ∧ f.lastLoad = some i) ∨ (takenSwitch s.plans.records e ∧ f.heldBy = some i) then (f.outcomes.lookup i).map (fun _ => .superseded)
    else f.outcomes.lookup i := by
  obtain ⟨id, action, _⟩ := e
  cases action with
  | load x => simp [applyEntry, isLoad, takenSwitch, lookup_supersede]
  | switch n =>
    cases hn : s.plans.records.get n with
    | none => simp [applyEntry, isLoad, takenSwitch, hn, lookup_settleAs, h.symm]
    | some p => simp [applyEntry, isLoad, takenSwitch, hn, lookup_supersede]
  | pulse out w q => simp [applyEntry, isLoad, takenSwitch]

theorem applyEntry_lookup_self (hload : f.lastLoad ≠ some e.id) (hheld : f.heldBy ≠ some e.id)
    (h : f.outcomes.lookup e.id = some (firstOutcome r e)) :
    (applyEntry (f, s) e).1.outcomes.lookup e.id = some (appliedOutcome s.plans.records r e) := by
  obtain ⟨id, action, _⟩ := e
  dsimp only at hload hheld h
  cases action with
  | load x => simp [applyEntry, appliedOutcome, lookup_supersede, hload, h]
  | switch n => cases hn : s.plans.records.get n <;> simp [applyEntry, appliedOutcome, hn, lookup_settleAs, lookup_supersede, hheld, h]
  | pulse out w q => simp [applyEntry, appliedOutcome, h]

/-! ## The entries applied in turn -/

theorem superseded_twice {P Q R : Prop} [Decidable P] [Decidable Q] [Decidable R] {o : Option Ending} (h : R ↔ Q ∨ P) :
    (if P then (if Q then o.map (fun _ => .superseded) else o).map (fun _ => .superseded) else if Q then o.map (fun _ => .superseded) else o) =
      if R then o.map (fun _ => Ending.superseded) else o := by
  by_cases hP : P <;> by_cases hQ : Q <;> simp [h, hP, hQ, Function.comp_def]

/-- What the entries of a firing leave of the outcome under an id that none of them holds. -/
theorem applyEntries_lookup_of_ne (h : ∀ e ∈ es, e.id ≠ i) : (es.foldl applyEntry (f, s)).1.outcomes.lookup i =
    if (es.any isLoad ∧ f.lastLoad = some i) ∨ (es.any (takenSwitch s.plans.records) ∧ f.heldBy = some i) then
      (f.outcomes.lookup i).map (fun _ => .superseded)
    else f.outcomes.lookup i := by
  induction es generalizing f s with
  | nil => simp
  | cons e es ih =>
    have he : e.id ≠ i := h e List.mem_cons_self
    have hes := ih (f := (applyEntry (f, s) e).1) (s := (applyEntry (f, s) e).2) fun x hx => h x (List.mem_cons_of_mem e hx)
    rw [List.foldl_cons]
    refine hes.trans ?_
    rw [applyEntry_lookup_of_ne he, applyEntry_lastLoad, applyEntry_heldBy, applyEntry_records]
    refine superseded_twice ?_
    have hself : some e.id ≠ some i := fun h => he (Option.some.inj h)
    rw [List.any_cons, List.any_cons, Bool.or_eq_true, Bool.or_eq_true]
    split <;> split <;> tauto

/-- A firing settles each of its entries (R82, R99 to R101). -/
theorem applyEntries_lookup (hids : (es.map Entry.id).Nodup) (hfirst : ∀ e ∈ es, f.outcomes.lookup e.id = some (firstOutcome r e))
    (hload : ∀ e ∈ es, f.lastLoad ≠ some e.id) (hheld : ∀ e ∈ es, f.heldBy ≠ some e.id) :
    ∀ y ∈ settledEntries s.plans.records r es, (es.foldl applyEntry (f, s)).1.outcomes.lookup y.1.id = some y.2 := by
  induction es generalizing f s with
  | nil => exact fun y hy => nomatch hy
  | cons e es ih =>
    rw [List.map_cons, List.nodup_cons] at hids
    have hne (x : Entry) (hx : x ∈ es) : x.id ≠ e.id := fun heq => hids.1 (heq ▸ List.mem_map_of_mem hx)
    have hloadSelf := hload e List.mem_cons_self
    have hheldSelf := hheld e List.mem_cons_self
    have hself := applyEntry_lookup_self (s := s) hloadSelf hheldSelf (hfirst e List.mem_cons_self)
    intro y hy
    rw [settledEntries_cons, List.mem_cons] at hy
    obtain rfl | hy := hy
    · refine (applyEntries_lookup_of_ne (f := (applyEntry (f, s) e).1) (s := (applyEntry (f, s) e).2) hne).trans ?_
      rw [hself, applyEntry_lastLoad, applyEntry_heldBy, applyEntry_records, laterOutcome]
      by_cases hl : isLoad e = true <;> by_cases ht : takenSwitch s.plans.records e = true <;> simp [hl, ht, hloadSelf, hheldSelf] <;> split <;> rfl
    · have hrest (x : Entry) (hx : x ∈ es) := applyEntry_lookup_of_ne (f := f) (s := s) (hne x hx).symm
      rw [← applyEntry_records (f := f) (s := s) (e := e)] at hy
      refine ih (f := (applyEntry (f, s) e).1) (s := (applyEntry (f, s) e).2) hids.2 (fun x hx => ?_) (fun x hx => ?_) (fun x hx => ?_) y hy
      · rw [hrest x hx, if_neg, hfirst x (List.mem_cons_of_mem e hx)]
        exact fun h => h.elim (fun h => hload x (List.mem_cons_of_mem e hx) h.2) fun h => hheld x (List.mem_cons_of_mem e hx) h.2
      · rw [applyEntry_lastLoad]
        split
        · exact fun h => hne x hx (Option.some.inj h).symm
        · exact hload x (List.mem_cons_of_mem e hx)
      · rw [applyEntry_heldBy]
        split
        · exact fun h => hne x hx (Option.some.inj h).symm
        · exact hheld x (List.mem_cons_of_mem e hx)

/-- What the entries of a firing apply: the value of the LOADs, the target of the SWITCHes and the outputs of the PULSEs (R82, R100). -/
theorem applyEntries_state : (es.foldl applyEntry (f, s)).2 = { s with
    core := { s.core with time := afterLoads es s.core.time }
    plans := { s.plans with held := afterSwitches s.plans.records es s.plans.held }
    pulses := afterPulses es s.pulses } := by
  induction es generalizing f s with
  | nil => rfl
  | cons e es ih =>
    obtain ⟨id, action, _⟩ := e
    rw [List.foldl_cons]
    cases action with
    | load x => exact ih
    | pulse out w q => exact ih
    | switch n =>
      unfold applyEntry afterSwitches
      dsimp only [List.foldl_cons]
      cases hn : s.plans.records.get n <;> exact ih

theorem applyEntries_localLoad :
    (es.foldl applyEntry (f, s)).1.localLoad = (f.localLoad || es.any (fun e => isLoad e && e.orderId.isNone)) := by
  induction es generalizing f s with
  | nil => exact (Bool.or_false _).symm
  | cons e es ih =>
    obtain ⟨id, action, _⟩ := e
    rw [List.foldl_cons, List.any_cons]
    cases action with
    | load x => exact ih.trans (Bool.or_assoc _ _ _)
    | pulse out w q => exact ih
    | switch n =>
      unfold applyEntry
      dsimp only
      cases s.plans.records.get n <;> exact ih

end

end Sys2Proof.Machine
end

section
/-! SUPPORT. The stages of a firing put together (R17, R99 to R102, R107). -/

namespace Sys2Proof.Machine

/-! ## The reports (R17, R107) -/

section
variable {v : Time} {sps : Nat} {b : Bool} {r : SyncRecord} {outcomes : List (Nat × Ending)} {y : Entry × Ending} {settled : List (Entry × Ending)}
  {e : Entry} {es q : List Entry} {s : State}

/-- The loads' jump reported, and its realign arranged when a LOAD was local (R17). -/
theorem reportLoads_eq : reportLoads v b s = { s with
    core := { s.core with outRealign := if s.core.time ≠ v ∧ b then some (carryingSync s.core) else s.core.outRealign }
    notices := if s.core.time = v then s.notices
      else raised (.time s.core.state s.core.state s.sel.source s.core.grade s.core.hops (some (s.core.time - v)) s.core.syncIndex 1) s.notices } := by
  unfold reportLoads
  by_cases hsame : s.core.time = v
  · rw [if_pos hsame, if_pos hsame, if_neg fun h => h.1 hsame]
  · rw [if_neg hsame, if_neg hsame]
    cases b with
    | true => rw [if_pos rfl, if_pos ⟨hsame, rfl⟩]; rfl
    | false => rw [if_neg nofun, if_neg fun h => nomatch h.2]; rfl

theorem repeatPeriod_eq_none (h : repeats e = false) : repeatPeriod e = none := by
  obtain ⟨id, action, _⟩ := e
  cases action with
  | pulse out w q =>
    have hq : q = 0 := by simpa [repeats] using h
    exact if_pos hq
  | _ => rfl

/-- A repeating entry is a PULSE with a period (R102 b). -/
theorem pulse_of_repeats (h : repeats e = true) : ∃ out w n, e.action = .pulse out w n ∧ n ≠ 0 ∧ repeatPeriod e = some n := by
  obtain ⟨id, action, _⟩ := e
  cases action with
  | pulse out w q =>
    have hq : q ≠ 0 := by simpa [repeats] using h
    exact ⟨out, w, q, rfl, hq, if_neg hq⟩
  | _ => cases h

/-- An item for each entry that became FINISHED, in queue order (R107). -/
theorem reportFiring_eq (hlookup : ∀ y ∈ settled, outcomes.lookup y.1.id = some y.2) : reportFiring outcomes (settled.map Prod.fst) s =
    { s with notices := (settled.filter (fun y => !repeats y.1)).foldl (fun u y => raised (.actions [itemOf y.1 y.2]) u) s.notices } := by
  induction settled generalizing s with
  | nil => rfl
  | cons y ys ih =>
    have hy := hlookup y List.mem_cons_self
    have hys (t : State) := ih (s := t) fun x hx => hlookup x (List.mem_cons_of_mem y hx)
    cases hrepeats : repeats y.1 with
    | false =>
      have hstep : reportFiring outcomes ((y :: ys).map Prod.fst) s = reportFiring outcomes (ys.map Prod.fst) (raiseItem y.1 y.2 s) := by
        unfold reportFiring
        rw [List.map_cons, List.foldl_cons, repeatPeriod_eq_none hrepeats, hy]
      rw [hstep, hys, List.filter_cons_of_pos (by rw [hrepeats]; rfl)]
      rfl
    | true =>
      obtain ⟨-, -, n, -, -, hperiod⟩ := pulse_of_repeats hrepeats
      have hstep : reportFiring outcomes ((y :: ys).map Prod.fst) s = reportFiring outcomes (ys.map Prod.fst) s := by
        unfold reportFiring
        rw [List.map_cons, List.foldl_cons, hperiod]
      rw [hstep, hys, List.filter_cons_of_neg (by rw [hrepeats]; decide)]

/-! ## The ends of the turns (R102) -/

/-- The entry that ended its turn in the place of the one that fired, and any other as it was. -/
def turnedBy (v : Time) (sps : Nat) (y : Entry × Ending) (x : Entry) : Entry := if x.id = y.1.id then afterTurn v sps y else x

theorem afterTurn_id : (afterTurn v sps y).id = y.1.id := by
  obtain ⟨⟨id, action, _⟩, o⟩ := y
  cases action with
  | pulse out w q =>
    unfold afterTurn
    dsimp only
    split <;> rfl
  | _ => rfl

theorem turnedBy_id (x : Entry) : (turnedBy v sps y x).id = x.id := by
  unfold turnedBy
  split
  · next h => rw [afterTurn_id, h]
  · rfl

theorem turnedBy_of_ne {x : Entry} (h : x.id ≠ y.1.id) : turnedBy v sps y x = x := if_neg h

theorem afterTurn_of_once (h : repeats y.1 = false) : afterTurn v sps y = { y.1 with outcome := some y.2, sends := 0 } := by
  obtain ⟨⟨id, action, _⟩, o⟩ := y
  cases action with
  | pulse out w q =>
    have hq : q = 0 := by simpa [repeats] using h
    exact if_pos hq
  | _ => rfl

theorem endTurn_of_once (hlookup : outcomes.lookup y.1.id = some y.2) (h : repeats y.1 = false) :
    endTurn v sps outcomes q y.1 = q.map (fun x => if x.id = y.1.id then { x with outcome := some y.2, sends := 0 } else x) := by
  rw [endTurn, repeatPeriod_eq_none h, hlookup]

/-- Under unique ids, the entry in the queue under a firing entry's id is the entry itself. -/
theorem eq_of_same_id {x : Entry} (hids : (q.map Entry.id).Nodup) (hx : x ∈ q) (he : e ∈ q) (h : x.id = e.id) : x = e :=
  List.inj_on_of_nodup_map hids hx he h

theorem endTurn_eq_map (hids : (q.map Entry.id).Nodup) (hmem : y.1 ∈ q) (hlookup : outcomes.lookup y.1.id = some y.2) (h : repeats y.1 = false) :
    endTurn v sps outcomes q y.1 = q.map (turnedBy v sps y) := by
  rw [endTurn_of_once hlookup h]
  refine List.map_congr_left fun x hx => ?_
  rw [turnedBy, afterTurn_of_once h]
  split
  · next hid => rw [eq_of_same_id hids hx hmem hid]
  · rfl

theorem endTurn_of_repeats {out : OutputNo} {w n : Nat} (haction : e.action = .pulse out w n) (hn : n ≠ 0) :
    endTurn v sps outcomes q e = insertByDue { e with due := v + BitVec.ofNat 64 (n * sps), sends := 0 } (q.filter (fun x => x.id ≠ e.id)) := by
  have hperiod : repeatPeriod e = some n := by
    rw [repeatPeriod, haction]
    exact if_neg hn
  rw [endTurn, hperiod]

theorem endTurn_perm (hids : (q.map Entry.id).Nodup) (hmem : y.1 ∈ q) (hlookup : outcomes.lookup y.1.id = some y.2) :
    (endTurn v sps outcomes q y.1).Perm (q.map (turnedBy v sps y)) := by
  cases hrepeats : repeats y.1 with
  | false => exact .of_eq (endTurn_eq_map hids hmem hlookup hrepeats)
  | true =>
    obtain ⟨out, w, n, haction, hn, -⟩ := pulse_of_repeats hrepeats
    have hturn : turnedBy v sps y y.1 = { y.1 with due := v + BitVec.ofNat 64 (n * sps), sends := 0 } := by
      rw [turnedBy, if_pos rfl, afterTurn, haction]
      exact if_neg hn
    have hothers : (q.filter (fun x => x.id ≠ y.1.id)).map (turnedBy v sps y) = q.filter (fun x => x.id ≠ y.1.id) :=
      (List.map_congr_left fun x hx => turnedBy_of_ne (of_decide_eq_true (List.mem_filter.mp hx).2)).trans (List.map_id' _)
    rw [endTurn_of_repeats haction hn]
    refine (insertByDue_perm _ _).trans ?_
    rw [← hturn]
    conv_lhs => rw [← hothers]
    exact ((perm_cons_filter_id hids hmem).map (turnedBy v sps y)).symm

/-- An entry of the queue after the turns of the settled entries. -/
def turned (v : Time) (sps : Nat) (settled : List (Entry × Ending)) (x : Entry) : Entry :=
  match settled.find? (fun y => y.1.id == x.id) with
  | some y => afterTurn v sps y
  | none => x

theorem turned_cons {ys : List (Entry × Ending)} (hne : ∀ z ∈ ys, z.1.id ≠ y.1.id) (x : Entry) :
    turned v sps ys (turnedBy v sps y x) = turned v sps (y :: ys) x := by
  unfold turned
  rw [turnedBy_id]
  by_cases hid : x.id = y.1.id
  · have hnone : ys.find? (fun z => z.1.id == x.id) = none := by
      refine List.find?_eq_none.mpr fun z hz => ?_
      rw [hid]
      simpa using hne z hz
    rw [hnone, List.find?_cons_of_pos (by simpa using hid.symm)]
    exact if_pos hid
  · rw [List.find?_cons_of_neg (by simpa using Ne.symm hid), turnedBy_of_ne hid]

/-- The queue after the turns: the settled entries at their ends, in order of due where it was (R90, R102). -/
theorem endTurns_perm (hids : (q.map Entry.id).Nodup) (hmem : ∀ y ∈ settled, y.1 ∈ q) (hlookup : ∀ y ∈ settled, outcomes.lookup y.1.id = some y.2)
    (hsettled : (settled.map (fun y => y.1.id)).Nodup) :
    ((settled.map Prod.fst).foldl (endTurn v sps outcomes) q).Perm (q.map (turned v sps settled))
      ∧ ((∀ y ∈ settled, repeats y.1 = false) → (settled.map Prod.fst).foldl (endTurn v sps outcomes) q = q.map (turned v sps settled))
      ∧ (q.Pairwise (fun a b => a.due.toNat ≤ b.due.toNat) →
        ((settled.map Prod.fst).foldl (endTurn v sps outcomes) q).Pairwise (fun a b => a.due.toNat ≤ b.due.toNat)) := by
  induction settled generalizing q with
  | nil =>
    have hnone : q.map (turned v sps []) = q := List.map_id _
    rw [hnone]
    exact ⟨.refl _, fun _ => rfl, id⟩
  | cons y ys ih =>
    rw [List.map_cons, List.nodup_cons] at hsettled
    have hne (z : Entry × Ending) (hz : z ∈ ys) : z.1.id ≠ y.1.id :=
      fun heq => hsettled.1 (heq ▸ List.mem_map_of_mem (f := fun y : Entry × Ending => y.1.id) hz)
    have hy := hmem y List.mem_cons_self
    have hlookupY := hlookup y List.mem_cons_self
    have hperm := endTurn_perm (v := v) (sps := sps) hids hy hlookupY
    have hmapIds : (q.map (turnedBy v sps y)).map Entry.id = q.map Entry.id := by
      rw [List.map_map]
      exact List.map_congr_left fun x _ => turnedBy_id x
    have hids' : ((endTurn v sps outcomes q y.1).map Entry.id).Nodup := (hperm.map Entry.id).nodup_iff.mpr (by rwa [hmapIds])
    have hmem' (z : Entry × Ending) (hz : z ∈ ys) : z.1 ∈ endTurn v sps outcomes q y.1 := by
      refine hperm.mem_iff.mpr (List.mem_map.mpr ⟨z.1, hmem z (List.mem_cons_of_mem y hz), turnedBy_of_ne (hne z hz)⟩)
    obtain ⟨hrest, honce, hsorted⟩ := ih hids' hmem' (fun z hz => hlookup z (List.mem_cons_of_mem y hz)) hsettled.2
    have hcompose : (q.map (turnedBy v sps y)).map (turned v sps ys) = q.map (turned v sps (y :: ys)) := by
      rw [List.map_map]
      exact List.map_congr_left fun x _ => turned_cons hne x
    rw [List.map_cons, List.foldl_cons]
    refine ⟨hrest.trans ((hperm.map _).trans (.of_eq hcompose)), fun hall => ?_, fun hq => ?_⟩
    · rw [honce fun z hz => hall z (List.mem_cons_of_mem y hz), endTurn_eq_map hids hy hlookupY (hall y List.mem_cons_self), hcompose]
    · exact hsorted (endTurn_keeps v sps outcomes hids hq (List.mem_map_of_mem hy)).1

/-! ## A firing (R99 to R102) -/

/-- A firing of entries under unique ids: what it settles, and what it leaves. -/
theorem fire_eq (htime : s.core.time = v) (hes : dueEntries v s.sched.queue = es) (hids : (es.map Entry.id).Nodup)
    (hsettled : settledEntries s.plans.records r es = settled) :
    ∃ outcomes, (∀ y ∈ settled, outcomes.lookup y.1.id = some y.2) ∧ fire v r sps s = { s with
      core := { s.core with
        time := afterLoads es v
        outRealign := if afterLoads es v ≠ v ∧ es.any (fun e => isLoad e && e.orderId.isNone) then some (carryingSync s.core) else s.core.outRealign }
      plans := { s.plans with held := afterSwitches s.plans.records es s.plans.held }
      pulses := afterPulses es s.pulses
      sched := { s.sched with queue := es.foldl (endTurn v sps outcomes) s.sched.queue }
      notices := (settled.filter (fun y => !repeats y.1)).foldl (fun u y => raised (.actions [itemOf y.1 y.2]) u)
        (if afterLoads es v = v then s.notices
          else raised (.time s.core.state s.core.state s.sel.source s.core.grade s.core.hops (some (afterLoads es v - v)) s.core.syncIndex 1)
            s.notices) } := by
  have hfirst : ∀ e ∈ es, (es.map (fun e => (e.id, firstOutcome r e))).lookup e.id = some (firstOutcome r e) := by
    clear hes hsettled
    induction es with
    | nil => exact fun e he => nomatch he
    | cons x xs ih =>
      intro e he
      rw [List.map_cons, List.nodup_cons] at hids
      rw [List.map_cons, List.lookup_cons]
      obtain rfl | he := List.mem_cons.mp he
      · simp
      · have hne : e.id ≠ x.id := fun heq => hids.1 (heq ▸ List.mem_map_of_mem he)
        rw [beq_false_of_ne hne]
        exact ih hids.2 e he
  generalize hstart : ({ outcomes := es.map (fun e => (e.id, firstOutcome r e)), lastLoad := none, heldBy := none, localLoad := false } : Firing) = f
  have hlookup : ∀ y ∈ settled, (es.foldl applyEntry (f, s)).1.outcomes.lookup y.1.id = some y.2 := by
    rw [← hsettled]
    refine applyEntries_lookup hids (fun e he => ?_) (fun e _ => ?_) (fun e _ => ?_)
    · rw [← hstart]
      exact hfirst e he
    · rw [← hstart]
      exact nofun
    · rw [← hstart]
      exact nofun
  refine ⟨_, hlookup, ?_⟩
  have hlocal : (es.foldl applyEntry (f, s)).1.localLoad = es.any (fun e => isLoad e && e.orderId.isNone) := by
    rw [applyEntries_localLoad, ← hstart, Bool.false_or]
  have hfst : settled.map Prod.fst = es := by rw [← hsettled, settledEntries_fst]
  have hreport (t : State) := reportFiring_eq (s := t) hlookup
  rw [hfst] at hreport
  unfold fire
  rw [hes]
  dsimp only
  rw [hstart, hreport, hlocal, applyEntries_state, reportLoads_eq]
  dsimp only
  rw [htime]
  rfl

end

end Sys2Proof.Machine
end

section
/-! SUPPORT. The firing of one entry and of several (R99 to R102). -/

namespace Sys2Proof.Machine

section
variable {v : Time} {sps : Nat} {r : SyncRecord} {outcomes : List (Nat × Ending)} {e : Entry} {before after : List Entry} {o : Ending} {s : State}

theorem map_id_middle {g : Entry → Entry} (h : ∀ x ∈ before ++ after, x.id ≠ e.id) :
    (before ++ e :: after).map (fun x => if x.id = e.id then g x else x) = before ++ g e :: after := by
  have hsame {q : List Entry} (hq : ∀ x ∈ q, x.id ≠ e.id) : q.map (fun x => if x.id = e.id then g x else x) = q :=
    (List.map_congr_left fun x hx => if_neg (hq x hx)).trans (List.map_id' _)
  rw [List.map_append, List.map_cons, if_pos rfl, hsame fun x hx => h x (List.mem_append_left _ hx), hsame fun x hx => h x (List.mem_append_right _ hx)]

theorem filter_id_middle (h : ∀ x ∈ before ++ after, x.id ≠ e.id) : (before ++ e :: after).filter (fun x => x.id ≠ e.id) = before ++ after := by
  rw [List.filter_append, List.filter_cons_of_neg (by simp), ← List.filter_append]
  exact List.filter_eq_self.mpr fun x hx => decide_eq_true (h x hx)

/-- The state after one entry fired, but for its queue (R17, R82, R100). -/
def firedOne (v : Time) (e : Entry) (queue : List Entry) (n : NoticeUnit) (s : State) : State :=
  { s with
    core := { s.core with
      time := afterLoads [e] v
      outRealign := if afterLoads [e] v ≠ v ∧ (isLoad e && e.orderId.isNone) = true then some (carryingSync s.core) else s.core.outRealign }
    plans := { s.plans with held := afterSwitches s.plans.records [e] s.plans.held }
    pulses := afterPulses [e] s.pulses
    sched := { s.sched with queue := queue }
    notices := n }

/-- The notices before the items of one entry's firing: its LOAD's jump (R17). -/
def jumpNotices (x v : Time) (s : State) : NoticeUnit :=
  if x = v then s.notices
  else raised (.time s.core.state s.core.state s.sel.source s.core.grade s.core.hops (some (x - v)) s.core.syncIndex 1) s.notices

theorem fire_one (htime : s.core.time = v) (hes : dueEntries v s.sched.queue = [e]) (ho : appliedOutcome s.plans.records r e = o) :
    ∃ outcomes, outcomes.lookup e.id = some o ∧ fire v r sps s = firedOne v e (endTurn v sps outcomes s.sched.queue e)
      (if repeats e then jumpNotices (afterLoads [e] v) v s else raised (.actions [itemOf e o]) (jumpNotices (afterLoads [e] v) v s)) s := by
  have hsettled : settledEntries s.plans.records r [e] = [(e, o)] := by
    rw [settledEntries_cons, ho, laterOutcome, if_neg fun h => h.elim (fun h => nomatch h.2) fun h => nomatch h.2]
    rfl
  obtain ⟨outcomes, hlookup, hfire⟩ := fire_eq (sps := sps) htime hes (List.nodup_singleton _) hsettled
  refine ⟨outcomes, hlookup (e, o) List.mem_cons_self, hfire.trans ?_⟩
  rw [List.any_cons, List.any_nil, Bool.or_false, List.foldl_cons, List.foldl_nil]
  unfold firedOne jumpNotices
  cases hrepeats : repeats e with
  | false => rw [List.filter_cons_of_pos (by rw [hrepeats]; rfl)]; rfl
  | true => rw [List.filter_cons_of_neg (by rw [hrepeats]; decide)]; rfl

/-- One entry that fires once ends FINISHED in its place (R102 a). -/
theorem fire_one_of_once (htime : s.core.time = v) (hes : dueEntries v s.sched.queue = [e]) (hqueue : s.sched.queue = before ++ e :: after)
    (hids : ∀ x ∈ before ++ after, x.id ≠ e.id) (ho : appliedOutcome s.plans.records r e = o) (honce : repeats e = false) :
    fire v r sps s = firedOne v e (before ++ { e with outcome := some o, sends := 0 } :: after)
      (raised (.actions [itemOf e o]) (jumpNotices (afterLoads [e] v) v s)) s := by
  obtain ⟨outcomes, hlookup, hfire⟩ := fire_one (sps := sps) htime hes ho
  rw [hfire, honce, hqueue, endTurn_of_once (y := (e, o)) hlookup honce]
  dsimp only
  rw [map_id_middle (g := fun x => { x with outcome := some o, sends := 0 }) hids]
  rfl

theorem realign_if_of_load {α : Type} {x v : Time} {a b : α} (h : isLoad e = true) :
    (if x ≠ v ∧ (isLoad e && e.orderId.isNone) = true then a else b) = if x ≠ v ∧ e.orderId = none then a else b := by
  simp only [h, Bool.true_and, Option.isNone_iff_eq_none]

theorem afterLoads_of_no_load (h : isLoad e = false) : afterLoads [e] v = v := by
  obtain ⟨id, action, _⟩ := e
  cases action with
  | load x => cases h
  | _ => rfl

/-- A LOAD moves the time value alone (R17, R100 a). -/
theorem firedOne_of_load {x : Time} {queue : List Entry} {n : NoticeUnit} (haction : e.action = .load x) : firedOne v e queue n s = { s with
    core := { s.core with time := x, outRealign := if x ≠ v ∧ e.orderId = none then some (carryingSync s.core) else s.core.outRealign }
    sched := { s.sched with queue := queue }
    notices := n } := by
  have hload : isLoad e = true := by rw [isLoad, haction]
  obtain ⟨id, action, _⟩ := e
  cases haction
  rw [firedOne, realign_if_of_load hload]
  rfl

/-- A SWITCH leaves its target held, or is refused (R82). -/
theorem firedOne_of_switch {p : PlanNo} {queue : List Entry} {n : NoticeUnit} (haction : e.action = .switch p) (htime : s.core.time = v) :
    firedOne v e queue n s = { s with
      plans := { s.plans with held := if (s.plans.records.get p).isSome then some p else s.plans.held }
      sched := { s.sched with queue := queue }
      notices := n } := by
  subst htime
  obtain ⟨id, action, _⟩ := e
  cases haction
  rw [firedOne, if_neg fun h => h.1 rfl]
  rfl

/-- A PULSE drives its output (R100 c, R121). -/
theorem firedOne_of_pulse {out : OutputNo} {w q : Nat} {queue : List Entry} {n : NoticeUnit} (haction : e.action = .pulse out w q)
    (htime : s.core.time = v) : firedOne v e queue n s = { s with
      pulses := s.pulses.set out { s.pulses.get out with active := true, width := w }
      sched := { s.sched with queue := queue }
      notices := n } := by
  subst htime
  obtain ⟨id, action, _⟩ := e
  cases haction
  rw [firedOne, if_neg fun h => h.1 rfl]
  rfl

theorem jumpNotices_self : jumpNotices v v s = s.notices := if_pos rfl

end

/-- Settles O34: one entry by its action, then several entries by induction on those still to be applied. -/
theorem firingSettlesTheDueEntry : Obligations.FiringSettlesTheDueEntry := by
  refine ⟨fun v r sps e before after o s t htime hes hqueue hids ho ht => ?one,
    fun v x r sps es queue settled s t htime hes hids hsettled hx hqueue ht => ?several⟩
  case one =>
    subst ho ht
    refine ⟨fun x haction => ?load, fun n haction => ⟨fun hempty => ?refused, fun hloaded => ?taken⟩, fun out w haction => ?pulse,
      fun out w n haction hn hsorted => ?repeating⟩
    case load =>
      have hloads : afterLoads [e] v = x := by rw [afterLoads, List.foldl_cons, haction, List.foldl_nil]
      rw [fire_one_of_once htime hes hqueue hids (o := firstOutcome r e) (by rw [appliedOutcome, haction]) (by rw [repeats, haction]), firedOne_of_load haction, hloads]
      rfl
    case refused =>
      rw [fire_one_of_once htime hes hqueue hids (o := .refused) (by rw [appliedOutcome, haction]; exact if_pos hempty) (by rw [repeats, haction]),
        firedOne_of_switch haction htime, hempty, afterLoads_of_no_load (by rw [isLoad, haction]), jumpNotices_self]
      rfl
    case taken =>
      have hsome : s.plans.records.get n ≠ none := Option.isSome_iff_ne_none.mp hloaded
      rw [fire_one_of_once htime hes hqueue hids (o := firstOutcome r e) (by rw [appliedOutcome, haction]; exact if_neg hsome) (by rw [repeats, haction]),
        firedOne_of_switch haction htime, if_pos hloaded, afterLoads_of_no_load (by rw [isLoad, haction]), jumpNotices_self]
      rfl
    case pulse =>
      rw [fire_one_of_once htime hes hqueue hids (o := firstOutcome r e) (by rw [appliedOutcome, haction]) (by rw [repeats, haction]; rfl),
        firedOne_of_pulse haction htime, afterLoads_of_no_load (by rw [isLoad, haction]), jumpNotices_self]
      rfl
    case repeating =>
      have hrepeats : repeats e = true := by
        rw [repeats, haction]
        exact decide_eq_true hn.ne'
      have hrest : (before ++ after).Pairwise (fun a b => a.due.toNat ≤ b.due.toNat) := by
        rw [hqueue] at hsorted
        exact hsorted.sublist ((List.sublist_cons_self e after).append_left before)
      obtain ⟨outcomes, -, hfire⟩ := fire_one (r := r) (sps := sps) htime hes rfl
      refine ⟨_, insertedByDue_insertByDue hrest, ?_⟩
      rw [hfire, if_pos hrepeats, endTurn_of_repeats haction hn.ne', hqueue, filter_id_middle hids, firedOne_of_pulse haction htime,
        afterLoads_of_no_load (by rw [isLoad, haction]), jumpNotices_self]
  case several =>
    have hes' : dueEntries v s.sched.queue = es := hes.symm
    have hsub : es.Sublist s.sched.queue := by rw [hes]; exact List.filter_sublist
    obtain ⟨outcomes, hlookup, hfire⟩ := fire_eq (sps := sps) htime hes' (hids.sublist (hsub.map _)) hsettled.symm
    have hfst : settled.map Prod.fst = es := by rw [hsettled, settledEntries_fst]
    have hmemEs (y : Entry × Ending) (hy : y ∈ settled) : y.1 ∈ es := by
      rw [← hfst]
      exact List.mem_map_of_mem hy
    have hsettledIds : (settled.map (fun y => y.1.id)).Nodup := by
      have hmap : settled.map (fun y => y.1.id) = es.map Entry.id := by rw [← hfst, List.map_map]; rfl
      rw [hmap]
      exact hids.sublist (hsub.map _)
    obtain ⟨hperm, honce, hsorted⟩ := endTurns_perm (v := v) (sps := sps) hids (fun y hy => hsub.subset (hmemEs y hy)) hlookup hsettledIds
    rw [hfst] at hperm honce hsorted
    have hturned : s.sched.queue.map (turned v sps settled) = queue := hqueue.symm
    rw [hturned] at hperm honce
    have htq : t.sched.queue = es.foldl (endTurn v sps outcomes) s.sched.queue := by rw [ht, hfire]
    rw [htq]
    refine ⟨?_, hperm, fun hall => honce fun y hy => hall _ (hmemEs y hy), hsorted⟩
    rw [ht, hfire, hx]

end Sys2Proof.Machine
end
